-- ==== Sys2Proof/Word.lean ====
section
/-! DEFINITION. The word types of the FQ416: bytes, 16-bit and 32-bit fields, 64-bit byte addresses. -/

namespace Sys2Proof

/-- One byte of a structure shared with the host. -/
abbrev Byte := BitVec 8

/-- A two-byte field. -/
abbrev Half := BitVec 16

/-- A four-byte field, a register word, or a 32-bit count that wraps. -/
abbrev Word := BitVec 32

/-- A 64-bit byte address (00, Memory). -/
abbrev Addr := BitVec 64

/-- The number of a timing line, TL0 to TL15. -/
abbrev Line := Fin 16

end Sys2Proof
end

