-- ==== Sys2Proof/Syntax.lean ====
section
/-! DEFINITION. The commands: one constructor for each row of spec/opcode_table.json. -/

namespace Sys2Proof

/-- A command the part takes, or an event it meets. Reads carry the bytes memory returned. -/
inductive Instr where
  /-- RESET_N (R174): the reset pin is asserted. -/
  | resetN
  /-- LOAD (R160): code 1 written to CMD. -/
  | load
  /-- START (R165): code 2 written to CMD. -/
  | start
  /-- STOP (R166): code 3 written to CMD. -/
  | stop
  /-- RESUME (R167): code 4 written to CMD. -/
  | resume
  /-- HALT (R168): code 5 written to CMD. -/
  | halt
  /-- CLEAR (R169): code 6 written to CMD. -/
  | clear
  /-- UNKNOWN_COMMAND_CODE (R158, R177): a word whose bits 0 to 7 name no command written to CMD. -/
  | unknownCommandCode (word : Word)
  /-- XBASE_WRITE (R172): a word written to XBASE_HI (`high`) or XBASE_LO. -/
  | xbaseWrite (high : Bool) (word : Word)
  /-- CAUSE_WRITE (R173). -/
  | causeWrite (word : Word)
  /-- MASK_WRITE (R173). -/
  | maskWrite (word : Word)
  /-- IGNORED_REGISTER_WRITE (R172): a write of `size` bytes at byte offset `offset` that the port ignores. -/
  | ignoredRegisterWrite (offset size : Nat) (word : Word)
  /-- SYNC_IN_EDGE (R9): SYNC_IN has `level` from this tick. -/
  | syncInEdge (level : Bool)
  /-- LINE_EDGE (R26): the outside gives the sixteen pins these levels from this tick, bit n for TLn (log 6). -/
  | lineEdge (levels : BitVec 16)
  /-- INTERNAL_FRAME_END (R7). -/
  | internalFrameEnd
  /-- SYNC_MISSING (R11). -/
  | syncMissing
  /-- SYNC_OUT_PULSE_END (R16). -/
  | syncOutPulseEnd
  /-- SLOT_START (R5). -/
  | slotStart
  /-- STATIC_ACTION_START (R54). -/
  | staticActionStart
  /-- BURST_PERIOD_CHANGE (R25) on a line. -/
  | burstPeriodChange (line : Line)
  /-- OUTPUT_ACTION_END (R21) on a line. -/
  | outputActionEnd (line : Line)
  /-- WINDOW_CLOSE_TICK (R29) on a line. -/
  | windowCloseTick (line : Line)
  /-- DYNAMIC_PHASE_START (R100). -/
  | dynamicPhaseStart
  /-- MINISLOT_START (R102). -/
  | minislotStart
  /-- SPOT_ACTION_END (R103). -/
  | spotActionEnd
  /-- SERVICE_WINDOW_START (R126). -/
  | serviceWindowStart
  /-- SETUP_READ_DONE (R161), with the 64 bytes of the setup section. -/
  | setupReadDone (data : Vector Byte 64)
  /-- LOAD_HOST_CONTROL_READ_DONE (R163), with the 32 bytes of the host-control section. -/
  | loadHostControlReadDone (data : Vector Byte 32)
  /-- STEP_A_READ_DONE (R127), with the 32 bytes of the host-control section. -/
  | stepAReadDone (data : Vector Byte 32)
  /-- PLAN_READ_DONE (R59); a transfer of n bytes returns the first n of `data` (log 16). -/
  | planReadDone (data : Vector Byte 64)
  /-- BOARD_ENTRY_READ_DONE (R77), with the 48 bytes of the entry. -/
  | boardEntryReadDone (data : Vector Byte 48)
  /-- RESULT_WRITE_DONE (R88). -/
  | resultWriteDone
  /-- STATE_WORD_WRITE_DONE (R88). -/
  | stateWordWriteDone
  /-- STATUS_FIRST_WRITE_DONE (R130). -/
  | statusFirstWriteDone
  /-- STATUS_SECOND_WRITE_DONE (R131). -/
  | statusSecondWriteDone
  /-- CLOSING_STATUS_WRITE (R136). -/
  | closingStatusWrite
  /-- JOURNAL_WRITE_DONE (R117). -/
  | journalWriteDone
  /-- TIMEOUT (R143). -/
  | timeout
  /-- BUS_ERROR (R144). -/
  | busError
  /-- LATE_RESPONSE (R143). -/
  | lateResponse
  /-- DISCARDED_TRANSFER_END (R146). -/
  | discardedTransferEnd
  /-- SYNC_ACCEPTANCE_OPEN (R10). -/
  | syncAcceptanceOpen
deriving DecidableEq, Repr

end Sys2Proof
end

