-- ==== Sys2Proof/Decode.lean ====
section
/-! DEFINITION. The command that a word of the table's bits spells. -/

namespace Sys2Proof

/-- spec/opcode_table.json gives no row a bit pattern: no word spells a command. -/
def decodeTableWord (_nbits _w : Nat) : Option Instr := none

end Sys2Proof
end

