-- ==== Sys2Proof/Config.lean ====
section
/-! DEFINITION. What is fixed for the part, and the one free value the manual leaves open. -/

namespace Sys2Proof

/-- The three requesters of the memory port (09). Every transfer of LOAD is SERVICE. -/
inductive Requester where
  | service
  | writer
  | loader
deriving DecidableEq, Repr

namespace Config

/-- R172: IDENT. -/
def vendorCode : Nat := 0xD5
/-- R172: IDENT. -/
def partNumber : Nat := 416
/-- R172: IDENT. -/
def revision : Nat := 1
/-- R112: places in Capture Staging. -/
def stagingPlaces : Nat := 32
/-- R93: places in the Spot Queue. -/
def queuePlaces : Nat := 16
/-- R37: bytes a plan bank holds at most. -/
def bankBytes : Nat := 2208
/-- R148: the timeout in force after RESET_N, CLEAR and LOAD being taken. -/
def resetTimeout : Nat := 65535
/-- R45: ticks the geometry check keeps for the service window. -/
def serviceWindowMin : Nat := 2048
/-- R16: ticks of the SYNC_OUT pulse. -/
def syncOutTicks : Nat := 8

/-- FREE VALUE (log 5). R141: a request made at the same tick as the outstanding transfer ends may be taken
before or after that end. For the `n`th such end, whether the new request of a requester is taken first.
It has no body, so no proof can see which order is chosen. -/
opaque requestTakenFirst (n : Nat) (q : Requester) : Bool

end Config
end Sys2Proof
end

