-- ==== Sys2Proof/Machine/State.lean ====
section
/-! DEFINITION. The state of the FQ416 as plain data, one record for each block, and the state after RESET_N.
Fields marked MODEL are the model's own; the log entry beside each says why. -/

namespace Sys2Proof.Machine

/-! ## Engine Control (11) -/

/-- R157: the engine states. -/
inductive EngineState where
  | idle | loading | armed | syncWait | running | held | halted
deriving DecidableEq, Repr

/-- R159: a command taken and not yet complete. -/
inductive PendingCommand where
  | none | load | stop | resume
deriving DecidableEq, Repr

/-- R159: outcome field of the CMD readback. -/
inductive CmdOutcome where
  | none | accepted | done | failed | overridden | refusedCode | refusedBusy | refusedState
deriving DecidableEq, Repr

/-- R164: reason field of the CMD readback. -/
inductive CmdReason where
  | none | setupBoard | setupJournal | setupTimeout | setupHealth | setupSync | noPlan | planRejected | bus | halted
deriving DecidableEq, Repr

/-- R43, R69: plan status detail, and the plan reason code of the CMD readback. -/
inductive PlanDetail where
  | none | badFormat | badCheck | badGeometry | tooMany | badOrder | badFilter | badParam | overrunsSlot | lineMode
  | overlap | busError | timeout
deriving DecidableEq, Repr

/-- R160: where LOAD stands. -/
inductive LoadStage where
  | none | setupRead | hostRead | plan | statusWrite
deriving DecidableEq, Repr

/-- R162: frame start mode. -/
inductive StartMode where
  | internal | external
deriving DecidableEq, Repr

/-- R9, R26: the direction of an edge. -/
inductive Edge where
  | rise | fall
deriving DecidableEq, Repr

/-- R162: the setup values. -/
structure Setup where
  journalBase : Addr
  journalSize : Word
  boardCount : Nat
  mode : StartMode
  activeEdge : Edge
  autoResume : Bool
  timeout : Nat
  tolerance : Nat
  overrunWeight : Nat
  syncWeight : Nat
  busWeight : Nat
  lossWeight : Nat
  hold : Nat
  halt : Nat
  resume : Nat
deriving DecidableEq, Repr

/-- R159: the CMD readback. The pending flag is `Control.pending ≠ none` (R159), stored once. `last` is 0 for none. -/
structure Readback where
  last : Byte
  outcome : CmdOutcome
  reason : CmdReason
  planReason : PlanDetail
deriving DecidableEq, Repr

/-- Engine Control (11). CAUSE and MASK are in the bit order of R177: JOURNAL, RESULT, PLAN, HEALTH, COMMAND, BUS. -/
structure Control where
  engine : EngineState
  pending : PendingCommand
  readback : Readback
  stage : LoadStage
  setup : Setup
  loading : Option Setup
  xbase : Addr
  cause : BitVec 6
  mask : BitVec 6
deriving DecidableEq, Repr

/-! ## Frame Timer (01) -/

/-- R4: the geometry fields of a plan, and the Frame Timer's copy of them. -/
structure Geometry where
  frameLength : Nat
  slots : Nat
  slotLength : Nat
  minislots : Nat
  minislotLength : Nat
  latestStart : Nat
deriving DecidableEq, Repr

/-- R5: phase position. -/
inductive Phase where
  | none
  | static (slot : Nat)
  | dynamic (minislot : Nat)
  | service
deriving DecidableEq, Repr

/-- R10: sync acceptance state. -/
inductive Acceptance where
  | off | awaitFirst | earlyZone | opened
deriving DecidableEq, Repr

/-- The Frame Timer. The running flag is `frameTime.isSome` (R1, R17), stored once. -/
structure Timer where
  frameTime : Option Nat
  nextFrame : Word
  current : Word
  geometry : Geometry
  phase : Phase
  acceptance : Acceptance
  earlySeen : Bool
  lastLength : Nat
  syncOut : Bool
  syncSample : Option Bool
deriving DecidableEq, Repr

/-! ## Line cells (02) -/

/-- R18: direction in force. -/
inductive Direction where
  | none | sense | drive
deriving DecidableEq, Repr

/-- R23: op of a LEVEL. -/
inductive LevelOp where
  | set | clear | toggle
deriving DecidableEq, Repr

/-- R27: edge select of a WINDOW. -/
inductive EdgeSelect where
  | rise | fall | both
deriving DecidableEq, Repr

/-- A timed operation with the parameters its kind uses (02, table of the action kinds). -/
inductive Operation where
  | level (op : LevelOp)
  | pulse (width : Nat)
  | burst (period duty count : Nat)
  | window (width : Nat) (edge : EdgeSelect) (maxCaptures : Nat)
  | mark
deriving DecidableEq, Repr

/-- R21: a running PULSE or BURST, with its start and end tick. -/
structure RunningAction where
  start : Nat
  stop : Nat
  op : Operation
deriving DecidableEq, Repr

/-- R27: what opened a window. -/
inductive WindowSource where
  | static (slot action : Nat)
  | spot (board : Nat) (tag : Word)
deriving DecidableEq, Repr

/-- R27: an open window. -/
structure Window where
  edge : EdgeSelect
  left : Nat
  made : Nat
  closeTick : Nat
  source : WindowSource
deriving DecidableEq, Repr

/-- R39: the four settings of a line table entry. -/
structure LineSettings where
  direction : Direction
  rest : Bool
  safe : Bool
  invert : Bool
deriving DecidableEq, Repr

/-- A line cell (02). -/
structure Cell where
  settings : LineSettings
  logical : Bool
  running : Option RunningAction
  window : Option Window
  prevSample : Option Bool
deriving DecidableEq, Repr

/-! ## Timetable Store and Static Action Unit (03) -/

/-- R50: state of a bank. -/
inductive BankState where
  | free | filling | pending | current
deriving DecidableEq, Repr

/-- R50: a bank. `content` holds the plan bytes read so far, from byte 0 (R37). -/
structure Bank where
  state : BankState
  generation : Word
  content : List Byte
deriving DecidableEq, Repr

/-- The Timetable Store. MODEL (log 12): `pendingNow` holds while the tick at which a bank became PENDING lasts (R67). -/
structure Store where
  bank0 : Bank
  bank1 : Bank
  pendingNow : Bool
deriving DecidableEq, Repr

/-- R53: the Static Action Unit. -/
structure StaticUnit where
  active : Bool
  next : Nat
  frame : Word
deriving DecidableEq, Repr

/-! ## Plan Loader (04) -/

/-- R69: the plan status values. -/
inductive PlanStatusCode where
  | none | filling | pending | current | rejected | superseded | busFailed
deriving DecidableEq, Repr

/-- R69: the plan status. -/
structure PlanStatus where
  generation : Word
  status : PlanStatusCode
  detail : PlanDetail
deriving DecidableEq, Repr

/-- 04: whether the Loader has a read at the port, and whose data it brings. -/
inductive ReadOutstanding where
  | none | currentLoad | stale
deriving DecidableEq, Repr

/-- The Plan Loader (04). The load state is FILLING exactly when `filling`. -/
structure Loader where
  filling : Bool
  generation : Word
  address : Addr
  position : Nat
  total : Option Nat
  crc : Word
  readOut : ReadOutstanding
  lastRefused : Word
  status : PlanStatus
  posted : Bool
deriving DecidableEq, Repr

/-! ## Request board entries and the Spot Queue (05, 06) -/

/-- R76: the values of a state word that have a name. -/
inductive StateWord where
  | empty | posted | taken | cancelReq | done | expired | cancelled | rejected | cancelLate
deriving DecidableEq, Repr

/-- R75: outcome detail of a result. -/
inductive OutcomeDetail where
  | none | cancelled | badKind | badLine | badParam | lineMode | tooLong
deriving DecidableEq, Repr

/-- R74: a request, each field as stored in the entry. -/
structure Request where
  kind : Byte
  line : Byte
  opEdge : Byte
  maxCaptures : Byte
  priority : Byte
  atOnce : Byte
  deadline : Half
  earliest : Word
  p1 : Half
  p2 : Half
  p3 : Half
deriving DecidableEq, Repr

/-- R75: the fields of a result. -/
structure ResultFields where
  detail : OutcomeDetail
  afterSwitch : Bool
  startFrame : Word
  startTime : Nat
  captures : Nat
deriving DecidableEq, Repr

/-- R97: status of a queue entry. -/
inductive EntryStatus where
  | waiting | placed | executing | finished
deriving DecidableEq, Repr

/-- R93: outcome of a queue entry. -/
inductive Ending where
  | none | done | expired | cancelled | rejected
deriving DecidableEq, Repr

/-- R93: a queue entry. `result` holds outcome detail, start frame, start frame time and captures made. -/
structure Entry where
  board : Nat
  tag : Word
  request : Request
  earliest : Word
  take : Word
  status : EntryStatus
  startMinislot : Option Nat
  ending : Ending
  result : ResultFields
deriving DecidableEq, Repr

/-- R102: the spot action under way. -/
structure SpotAction where
  board : Nat
  start : Nat
  stop : Nat
deriving DecidableEq, Repr

/-- R100: an entry of the run list. -/
structure Placement where
  board : Nat
  minislot : Nat
deriving DecidableEq, Repr

/-- The Spot Queue, the Dynamic Arbiter and the Spot Generator (06). -/
structure Queue where
  entries : List Entry
  nextTake : Word
  runList : List Placement
  nextFree : Nat
  action : Option SpotAction
deriving DecidableEq, Repr

/-! ## Capture Staging and Journal Writer (07) -/

/-- R110: cause field of a STATE record. -/
inductive StateCause where
  | command | health
deriving DecidableEq, Repr

/-- R110: a record's kind with the kind's own fields. -/
inductive RecordBody where
  | capture (line : Line) (edge : Edge) (source : WindowSource)
  | mark (tag : Word) (board : Nat)
  | planSwitch (new old : Word)
  | state (new : EngineState) (cause : StateCause)
deriving DecidableEq, Repr

/-- R110: a record. -/
structure Record where
  body : RecordBody
  frame : Word
  time : Nat
  lostBefore : Half
deriving DecidableEq, Repr

/-- A record offered at the present tick, with its stamp (R3). -/
structure Offer where
  body : RecordBody
  frame : Word
  time : Nat
deriving DecidableEq, Repr

/-- Capture Staging (07), the head first. MODEL (log 23): `offered` holds the records offered at the present tick to a full
staging whose head is at the memory port, until the head leaves or the tick passes (R112). MODEL (log 23): `lostNow` counts the
captures and marks lost at the present tick, which a HALT at that tick leaves uncounted (R34, R107). -/
structure Staging where
  records : List Record
  lossAccumulator : Word
  lost : Word
  offered : List Offer
  lostNow : Word
deriving DecidableEq, Repr

/-- The Journal Writer (07). Its outstanding write is that of the memory port (R117), stored once there. -/
structure Writer where
  base : Addr
  size : Word
  written : Word
  released : Word
  watermark : Word
  enabled : Bool
deriving DecidableEq, Repr

/-! ## Service Unit (08) -/

/-- 08: what the Service Unit is doing. -/
inductive Activity where
  | none | pass | tail | closingWait | statusWrite
deriving DecidableEq, Repr

/-- 08: the step of a pass. -/
inductive PassStep where
  | a | b | c | d
deriving DecidableEq, Repr

/-- 08: the unit of work whose first transfer has been issued (R133). -/
inductive UnitInHand where
  | none
  | post (board : Nat)
  | scan (board : Nat)
  | status
deriving DecidableEq, Repr

/-- R127: the host-control values. -/
structure HostControl where
  planAddress : Addr
  planGeneration : Word
  release : Word
  watermark : Word
deriving DecidableEq, Repr

/-- R130: the values of the status section. -/
structure Snapshot where
  serial : Word
  frame : Word
  engine : EngineState
  score : Nat
  backlog : Bool
  junk : Bool
  releaseBad : Bool
  written : Word
  released : Word
  currentGeneration : Word
  plan : PlanStatus
  overruns : Word
  syncFaults : Word
  busFaults : Word
  recordsLost : Word
deriving DecidableEq, Repr

/-- The Service Unit (08). `passFrame` is the frame number of the pass and `snapshot` what both writes of step D carry
(R130). `closingOwed`: a closing write follows the tail or status write in progress (R136). -/
structure Service where
  activity : Activity
  step : PassStep
  postList : List Nat
  boardPos : Nat
  unit : UnitInHand
  backlog : Bool
  junk : Bool
  releaseBad : Bool
  noted : Bool
  hostControl : HostControl
  serial : Word
  owed : Bool
  passFrame : Word
  snapshot : Snapshot
  closingOwed : Bool
deriving DecidableEq, Repr

/-! ## Memory Port (09) -/

/-- 09, table of the transfers. A write to the board carries what it writes; the other writes take their bytes when
they are issued. -/
inductive TransferKind where
  | setupRead
  | hostControlRead
  | stepARead
  | planRead
  | boardRead (board : Nat)
  | resultWrite (board : Nat) (result : ResultFields) (final : StateWord)
  | stateWrite (board : Nat) (word : StateWord)
  | statusFirst
  | statusSecond
  | journalWrite
deriving DecidableEq, Repr

/-- A waiting request (R140). -/
structure Waiting where
  kind : TransferKind
  address : Addr
  length : Nat
deriving DecidableEq, Repr

/-- The outstanding transfer. `data` holds the bytes of a write, and is empty for a read. -/
structure Transfer where
  kind : TransferKind
  address : Addr
  length : Nat
  data : List Byte
  requester : Requester
  issueTick : Nat
  expiryTick : Nat
  discard : Bool
deriving DecidableEq, Repr

/-- The memory port (09). -/
structure Port where
  service : Option Waiting
  writer : Option Waiting
  loader : Option Waiting
  outstanding : Option Transfer
  timeout : Nat
  busFaults : Word
deriving DecidableEq, Repr

/-! ## Health Monitor (10) -/

/-- R149: a set of fault kinds. -/
structure FaultSet where
  overrun : Bool
  sync : Bool
  bus : Bool
  loss : Bool
deriving DecidableEq, Repr

/-- The Health Monitor (10). MODEL (log 11): `faultsNow` holds the BUS_FAULT and CAPTURE_LOSS reports of the present tick,
made while a frame runs; they belong to the frame that starts at this tick when one starts (R149). -/
structure Health where
  score : Nat
  faults : FaultSet
  faultsNow : FaultSet
  overruns : Word
  syncFaults : Word
deriving DecidableEq, Repr

/-! ## The whole -/

/-- MODEL (log 6): the levels the outside gives the input pins. -/
structure Outside where
  sync : Bool
  lines : BitVec 16
deriving DecidableEq, Repr

/-- The FQ416, and the queue of commands that wait. MODEL: `outside` (log 6), `now` (log 8), `choices` (log 5). -/
structure State where
  control : Control
  timer : Timer
  cells : Vector Cell 16
  store : Store
  static : StaticUnit
  loader : Loader
  queue : Queue
  staging : Staging
  writer : Writer
  service : Service
  port : Port
  health : Health
  outside : Outside
  now : Nat
  choices : Nat
  pending : List Instr
deriving DecidableEq, Repr

/-- The part never stops: every row of the table has an effect, and a failure is counted, reported or refused inside the
part (R145, R149, R158). There is no fault. -/
inductive Fault
deriving DecidableEq, Repr

/-- Why a command has no meaning. -/
inductive Refusal where
  /-- Raised by `exec` for a row that has no meaning yet. Safe: the model stops where the part goes on. No arm raises it. -/
  | notModelled (mnemonic : String)
deriving DecidableEq, Repr

/-! ## Values after RESET_N, block by block -/

/-- R174. Log 14: the journal and timeout values have no reset of their own. -/
def Setup.reset : Setup :=
  { journalBase := 0, journalSize := 0, boardCount := 0, mode := .internal, activeEdge := .rise, autoResume := false,
    timeout := 65535, tolerance := 0, overrunWeight := 0, syncWeight := 0, busWeight := 0, lossWeight := 0,
    hold := 0, halt := 0, resume := 0 }

/-- R159: last command none, outcome NONE, reason NONE. -/
def Readback.reset : Readback := { last := 0, outcome := .none, reason := .none, planReason := .none }

/-- R174. -/
def Control.reset : Control :=
  { engine := .idle, pending := .none, readback := .reset, stage := .none, setup := .reset, loading := none,
    xbase := 0, cause := 0, mask := 0 }

/-- R4: the empty copy. -/
def Geometry.empty : Geometry :=
  { frameLength := 0, slots := 0, slotLength := 0, minislots := 0, minislotLength := 0, latestStart := 0 }

/-- R17. -/
def Timer.reset : Timer :=
  { frameTime := none, nextFrame := 0, current := 4294967295, geometry := .empty, phase := .none, acceptance := .off,
    earlySeen := false, lastLength := 0, syncOut := false, syncSample := none }

/-- R18: direction NONE has rest level 0, safe level 0 and invert no. -/
def LineSettings.off : LineSettings := { direction := .none, rest := false, safe := false, invert := false }

/-- R36. -/
def Cell.reset : Cell :=
  { settings := .off, logical := false, running := none, window := none, prevSample := none }

/-- R51: a FREE bank. -/
def Bank.free : Bank := { state := .free, generation := 0, content := [] }

/-- R56. -/
def Store.reset : Store := { bank0 := .free, bank1 := .free, pendingNow := false }

/-- R56. -/
def StaticUnit.reset : StaticUnit := { active := false, next := 0, frame := 0 }

/-- R72. -/
def Loader.reset : Loader :=
  { filling := false, generation := 0, address := 0, position := 0, total := none, crc := 0xFFFFFFFF, readOut := .none,
    lastRefused := 0, status := { generation := 0, status := .none, detail := .none }, posted := true }

/-- R109. -/
def Queue.reset : Queue := { entries := [], nextTake := 0, runList := [], nextFree := 0, action := none }

/-- R125. -/
def Staging.reset : Staging := { records := [], lossAccumulator := 0, lost := 0, offered := [], lostNow := 0 }

/-- R125. -/
def Writer.reset : Writer :=
  { base := 0, size := 0, written := 0, released := 0, watermark := 0, enabled := false }

/-- R138: host-control values 0. -/
def HostControl.zero : HostControl := { planAddress := 0, planGeneration := 0, release := 0, watermark := 0 }

/-- Log 14: no rule gives a snapshot before the first status write. -/
def Snapshot.zero : Snapshot :=
  { serial := 0, frame := 0, engine := .idle, score := 0, backlog := false, junk := false, releaseBad := false,
    written := 0, released := 0, currentGeneration := 0,
    plan := { generation := 0, status := .none, detail := .none },
    overruns := 0, syncFaults := 0, busFaults := 0, recordsLost := 0 }

/-- R138. Log 14: step, pass frame, snapshot and closing write owed. -/
def Service.reset : Service :=
  { activity := .none, step := .a, postList := [], boardPos := 0, unit := .none, backlog := false, junk := false,
    releaseBad := false, noted := false, hostControl := .zero, serial := 0, owed := false, passFrame := 0,
    snapshot := .zero, closingOwed := false }

/-- R148. -/
def Port.reset : Port :=
  { service := none, writer := none, loader := none, outstanding := none, timeout := 65535, busFaults := 0 }

/-- R149: no kind reported. -/
def FaultSet.empty : FaultSet := { overrun := false, sync := false, bus := false, loss := false }

/-- R156. -/
def Health.reset : Health := { score := 0, faults := .empty, faultsNow := .empty, overruns := 0, syncFaults := 0 }

/-- Log 6: the outside gives every input pin 0. -/
def Outside.low : Outside := { sync := false, lines := 0 }

/-- R174: the part right after RESET_N, with no command waiting. -/
def State.reset : State :=
  { control := .reset, timer := .reset, cells := Vector.replicate 16 .reset, store := .reset, static := .reset,
    loader := .reset, queue := .reset, staging := .reset, writer := .reset, service := .reset, port := .reset,
    health := .reset, outside := .low, now := 0, choices := 0, pending := [] }

end Sys2Proof.Machine
end

