-- ==== Sys2Proof/Machine/Ops.lean ====
section
/-! DEFINITION. Operations shared by the blocks: little-endian fields, serial comparison, the CRC register, line cells by
number, exchange-area addresses, the stamp. -/

namespace Sys2Proof.Machine

/-! ## Little-endian fields (00, Memory; R175) -/

/-- The byte at an offset of a structure. -/
def byteAt (bs : List Byte) (o : Nat) : Byte := bs.getD o 0

/-- A two-byte field. -/
def half (bs : List Byte) (o : Nat) : Half := byteAt bs (o + 1) ++ byteAt bs o

/-- A four-byte field. -/
def word (bs : List Byte) (o : Nat) : Word := half bs (o + 2) ++ half bs o

/-- An eight-byte field. -/
def quad (bs : List Byte) (o : Nat) : Addr := word bs (o + 4) ++ word bs o

/-- The byte that holds a value of 0 to 255. -/
def byteOf (n : Nat) : Byte := BitVec.ofNat 8 n

/-- A two-byte field as written. -/
def halfBytes (x : Half) : List Byte := [x.extractLsb' 0 8, x.extractLsb' 8 8]

/-- A four-byte field as written. -/
def wordBytes (x : Word) : List Byte :=
  [x.extractLsb' 0 8, x.extractLsb' 8 8, x.extractLsb' 16 8, x.extractLsb' 24 8]

/-- A flag stored as a byte: 0 clear or no, 1 set or yes (12, Encodings). -/
def flagByte (b : Bool) : Byte := if b then 1 else 0

/-- R176: bytes marked "no field" are written as 0. -/
def noField (n : Nat) : List Byte := List.replicate n 0

/-! ## Serial comparison (00, Frame numbers) -/

/-- A is at or after B: (A − B) mod 2^32 is less than 2^31. -/
def atOrAfter (a b : Word) : Bool := decide ((a - b).toNat < 2147483648)

/-- A comes before B in serial order. -/
def serialBefore (a b : Word) : Bool := atOrAfter b a && a != b

/-! ## The check word register (R42) -/

/-- One step of the register: shift right, and combine with the reversed polynomial when a 1 was shifted out. -/
def crcStep (r : Word) : Word := if r.getLsbD 0 then (r >>> 1) ^^^ 0xEDB88320 else r >>> 1

/-- A byte is combined into the low eight bits, then the register is stepped eight times. -/
def crcByte (r : Word) (b : Byte) : Word :=
  crcStep (crcStep (crcStep (crcStep (crcStep (crcStep (crcStep (crcStep (r ^^^ b.setWidth 32))))))))

/-- The register after a run of bytes in address order. -/
def crcBytes (r : Word) (bs : List Byte) : Word := bs.foldl crcByte r

/-- The computed check word from the register after the last byte. -/
def crcFinish (r : Word) : Word := r ^^^ 0xFFFFFFFF

/-! ## Line cells by number -/

/-- The sixteen lines in ascending order (R115). -/
def allLines : List Line := [0, 1, 2, 3, 4, 5, 6, 7, 8, 9, 10, 11, 12, 13, 14, 15]

/-- The line a byte 0 to 15 names. -/
def lineOf (b : Byte) : Line := Fin.ofNat 16 b.toNat

/-- Change one cell. -/
def updateCell (v : Vector Cell 16) (l : Line) (f : Cell → Cell) : Vector Cell 16 :=
  v.set l.val (f (v.get l)) l.isLt

/-- Change every cell. -/
def mapCells (v : Vector Cell 16) (f : Line → Cell → Cell) : Vector Cell 16 :=
  Vector.ofFn fun l => f l (v.get l)

/-! ## Memory addresses -/

/-- An address in the exchange area (12; log 13: the sum is a 64-bit address). -/
def exchangeAddr (s : State) (offset : Nat) : Addr := s.control.xbase + BitVec.ofNat 64 offset

/-- R73: exchange offset of board entry `i`. -/
def boardOffset (i : Nat) : Nat := 192 + 48 * i

/-- R116: records written and not yet released by the host. -/
def Writer.unreleased (w : Writer) : Nat := (w.written - w.released).toNat

/-- R117: the slot the next record goes to, W mod J. -/
def Writer.nextSlot (w : Writer) : Nat := w.written.toNat % w.size.toNat

/-- R116: address of the slot the next record goes to. -/
def Writer.slotAddr (w : Writer) : Addr := w.base + BitVec.ofNat 64 (32 * w.nextSlot)

/-! ## Frame time -/

/-- R1, R17: the running flag. -/
def State.frameRunning (s : State) : Bool := s.timer.frameTime.isSome

/-- R5: the static phase length S. -/
def Geometry.staticLength (g : Geometry) : Nat := g.slots * g.slotLength

/-- R5: the dynamic phase length D. -/
def Geometry.dynamicLength (g : Geometry) : Nat := g.minislots * g.minislotLength

/-- R3: the stamp of an event at a tick that is not a frame start: current frame number and frame time, or the last frame
length while no frame runs. -/
def stamp (s : State) : Word × Nat := (s.timer.current, s.timer.frameTime.getD s.timer.lastLength)

end Sys2Proof.Machine
end

