-- ==== Sys2Proof/Machine/Flags.lean ====
section
/-! DEFINITION. The flags: interrupt causes and IRQ (R173), the CMD readback (R159), fault sets and counts (R149, R150),
scoring (R151). -/

namespace Sys2Proof.Machine

/-! ## Interrupt causes (R173, R177) -/

/-- The six causes. -/
inductive Cause where
  | journal | result | plan | health | command | bus
deriving DecidableEq, Repr

/-- The bit of a cause in CAUSE and MASK (12, register port words). -/
def Cause.bit : Cause → Nat
  | .journal => 0
  | .result => 1
  | .plan => 2
  | .health => 3
  | .command => 4
  | .bus => 5

/-- A cause's flag alone. -/
def Cause.flag (c : Cause) : BitVec 6 := BitVec.twoPow 6 c.bit

/-- R173: raising a cause sets its flag. -/
def Control.raise (c : Control) (k : Cause) : Control := { c with cause := c.cause ||| k.flag }

/-- Raise a cause when a condition holds. -/
def Control.raiseIf (c : Control) (b : Bool) (k : Cause) : Control := if b then c.raise k else c

/-- Whether a cause's flag is set in CAUSE. -/
def Control.has (c : Control) (k : Cause) : Bool := c.cause.getLsbD k.bit

/-- R173: IRQ is asserted while some cause is set in CAUSE with its flag set in MASK. -/
def State.irq (s : State) : Bool := s.control.cause &&& s.control.mask != 0

/-! ## CMD readback (R159) -/

/-- Codes of the commands (12, Encodings). -/
def codeLoad : Byte := 1
def codeStart : Byte := 2
def codeStop : Byte := 3
def codeResume : Byte := 4
def codeHalt : Byte := 5
def codeClear : Byte := 6

/-- R159: a change of the readback raises COMMAND. -/
def Control.readbackIs (c : Control) (last : Byte) (outcome : CmdOutcome) (reason : CmdReason) (plan : PlanDetail) : Control :=
  { c with readback := { last := last, outcome := outcome, reason := reason, planReason := plan } }.raise .command

/-- R158: a refused command changes the readback and raises COMMAND, and nothing else. -/
def Control.refuse (c : Control) (last : Byte) (outcome : CmdOutcome) : Control :=
  c.readbackIs last outcome .none .none

/-- The code of a pending command, 0 for none. -/
def PendingCommand.code : PendingCommand → Byte
  | .none => 0
  | .load => codeLoad
  | .stop => codeStop
  | .resume => codeResume

/-! ## Fault sets (R149, R150) -/

/-- The union of two fault sets. -/
def FaultSet.union (a b : FaultSet) : FaultSet :=
  { overrun := a.overrun || b.overrun, sync := a.sync || b.sync, bus := a.bus || b.bus, loss := a.loss || b.loss }

/-- No kind is present. -/
def FaultSet.isEmpty (f : FaultSet) : Bool := !(f.overrun || f.sync || f.bus || f.loss)

/-- R145, R149: BUS_FAULT is reported. It is held with the present tick's reports (log 11), and a report made while no frame
runs marks no set. -/
def Health.reportBus (h : Health) (frameRuns : Bool) : Health :=
  { h with faultsNow := { h.faultsNow with bus := h.faultsNow.bus || frameRuns } }

/-- R113: CAPTURE_LOSS is reported when a record was lost at staging while a frame runs. -/
def Health.reportLoss (h : Health) (lost : Bool) : Health :=
  { h with faultsNow := { h.faultsNow with loss := h.faultsNow.loss || lost } }

/-- R12, R150: SYNC_EARLY is reported: a fault of the running frame and one occurrence. -/
def Health.reportSync (h : Health) : Health :=
  { h with faults := { h.faults with sync := true }, syncFaults := h.syncFaults + 1 }

/-- R135, R150: SERVICE_OVERRUN is reported against the ending frame. -/
def Health.reportOverrun (h : Health) : Health :=
  { h with faults := { h.faults with overrun := true }, overruns := h.overruns + 1 }

/-- R149: at the end of a tick its reports join the running frame's set; they belong to no frame when none runs. -/
def Health.endTick (h : Health) (frameRuns : Bool) : Health :=
  { h with faults := if frameRuns then h.faults.union h.faultsNow else h.faults, faultsNow := .empty }

/-! ## Scoring (R151) and the verdict (R153) -/

/-- The sum of the weights of the kinds present. -/
def faultWeight (u : Setup) (f : FaultSet) : Nat :=
  (if f.overrun then u.overrunWeight else 0) + (if f.sync then u.syncWeight else 0)
    + (if f.bus then u.busWeight else 0) + (if f.loss then u.lossWeight else 0)

/-- R151: the score after a frame with the fault set `f`. -/
def scoreAfter (u : Setup) (score : Nat) (f : FaultSet) : Nat :=
  if f.isEmpty then score - 1 else min 255 (score + faultWeight u f)

/-- R153: the verdicts. -/
inductive Verdict where
  | none | hold | release | halt
deriving DecidableEq, Repr

/-- R153: the verdict from the new score, the engine state and the pending command. -/
def verdict (u : Setup) (score : Nat) (engine : EngineState) (pending : PendingCommand) : Verdict :=
  if u.halt ≠ 0 ∧ u.halt ≤ score then .halt
  else if u.hold ≤ score ∧ (engine = .running ∨ (engine = .held ∧ pending = .resume)) then .hold
  else if engine = .held ∧ u.autoResume = true ∧ score ≤ u.resume then .release
  else .none

end Sys2Proof.Machine
end

