-- ==== Sys2Proof/Machine/Operands.lean ====
section
/-! DEFINITION. The structures shared with the host (12): every field read from its bytes (R175), every write laid out
(R176), every code. -/

namespace Sys2Proof.Machine

/-! ## Encodings (12) -/

def EngineState.code : EngineState → Nat
  | .idle => 0 | .loading => 1 | .armed => 2 | .syncWait => 3 | .running => 4 | .held => 5 | .halted => 6

def CmdOutcome.code : CmdOutcome → Nat
  | .none => 0 | .accepted => 1 | .done => 2 | .failed => 3 | .overridden => 4
  | .refusedCode => 5 | .refusedBusy => 6 | .refusedState => 7

def CmdReason.code : CmdReason → Nat
  | .none => 0 | .setupBoard => 1 | .setupJournal => 2 | .setupTimeout => 3 | .setupHealth => 4
  | .setupSync => 5 | .noPlan => 6 | .planRejected => 7 | .bus => 8 | .halted => 9

def PlanDetail.code : PlanDetail → Nat
  | .none => 0 | .badFormat => 1 | .badCheck => 2 | .badGeometry => 3 | .tooMany => 4 | .badOrder => 5
  | .badFilter => 6 | .badParam => 7 | .overrunsSlot => 8 | .lineMode => 9 | .overlap => 10
  | .busError => 16 | .timeout => 17

def PlanStatusCode.code : PlanStatusCode → Nat
  | .none => 0 | .filling => 1 | .pending => 2 | .current => 3 | .rejected => 4 | .superseded => 5 | .busFailed => 6

def OutcomeDetail.code : OutcomeDetail → Nat
  | .none => 0 | .cancelled => 1 | .badKind => 2 | .badLine => 3 | .badParam => 4 | .lineMode => 5 | .tooLong => 6

/-- R76. -/
def StateWord.code : StateWord → Nat
  | .empty => 0 | .posted => 1 | .taken => 2 | .cancelReq => 3 | .done => 4
  | .expired => 5 | .cancelled => 6 | .rejected => 7 | .cancelLate => 8

/-- R76: the state word's bytes name a value, or none for 9 and above. -/
def stateWordOf (w : Word) : Option StateWord :=
  match w.toNat with
  | 0 => some .empty
  | 1 => some .posted
  | 2 => some .taken
  | 3 => some .cancelReq
  | 4 => some .done
  | 5 => some .expired
  | 6 => some .cancelled
  | 7 => some .rejected
  | 8 => some .cancelLate
  | _ => none

/-- R76: values 4 to 8 are the final states. -/
def StateWord.isFinal : StateWord → Bool
  | .done | .expired | .cancelled | .rejected | .cancelLate => true
  | .empty | .posted | .taken | .cancelReq => false

def Edge.code : Edge → Nat
  | .rise => 0 | .fall => 1

def StateCause.code : StateCause → Nat
  | .command => 0 | .health => 1

/-- A code byte with the two values 0 and 1. -/
def flagOf (b : Byte) : Option Bool :=
  match b.toNat with
  | 0 => some false
  | 1 => some true
  | _ => none

def levelOpOf (b : Byte) : Option LevelOp :=
  match b.toNat with
  | 0 => some .set
  | 1 => some .clear
  | 2 => some .toggle
  | _ => none

def edgeSelectOf (b : Byte) : Option EdgeSelect :=
  match b.toNat with
  | 0 => some .rise
  | 1 => some .fall
  | 2 => some .both
  | _ => none

/-! ## Actions (R40, R74) -/

/-- Whether a kind code has a meaning. -/
def kindKnown (kind : Byte) : Bool := 1 ≤ kind.toNat && kind.toNat ≤ 5

/-- Kind LEVEL, PULSE or BURST: an output action. -/
def kindIsOutput (kind : Byte) : Bool := 1 ≤ kind.toNat && kind.toNat ≤ 3

/-- Kind WINDOW. -/
def kindIsWindow (kind : Byte) : Bool := kind.toNat == 4

/-- Kind MARK. -/
def kindIsMark (kind : Byte) : Bool := kind.toNat == 5

/-- R40, R47, R74: the operation a record or request describes. None when the kind has no meaning or a field the kind uses
lies outside its range; fields the kind does not use are not examined. -/
def operationOf (kind opEdge maxCaptures : Byte) (p1 p2 p3 : Half) : Option Operation :=
  match kind.toNat with
  | 1 => (levelOpOf opEdge).map .level
  | 2 => if 1 ≤ p1.toNat then some (.pulse p1.toNat) else none
  | 3 => if 2 ≤ p1.toNat ∧ 1 ≤ p3.toNat then some (.burst p1.toNat p2.toNat p3.toNat) else none
  | 4 =>
    if 1 ≤ p1.toNat ∧ 1 ≤ maxCaptures.toNat ∧ maxCaptures.toNat ≤ 8 then
      (edgeSelectOf opEdge).map fun e => .window p1.toNat e maxCaptures.toNat
    else none
  | 5 => some .mark
  | _ => none

/-- R40, R80: the duration in ticks, in full without truncation. -/
def Operation.duration : Operation → Nat
  | .level _ => 1
  | .pulse w => w
  | .burst p _ c => p * c
  | .window w _ _ => w
  | .mark => 1

/-! ## Setup section (R161) -/

/-- The setup section's fields as stored. -/
structure SetupFields where
  journalBase : Addr
  journalSize : Word
  boardCount : Byte
  mode : Byte
  activeEdge : Byte
  autoResume : Byte
  timeout : Half
  tolerance : Half
  overrunWeight : Byte
  syncWeight : Byte
  busWeight : Byte
  lossWeight : Byte
  hold : Byte
  halt : Byte
  resume : Byte
deriving DecidableEq, Repr

def readSetup (bs : List Byte) : SetupFields :=
  { journalBase := quad bs 0, journalSize := word bs 8, boardCount := byteAt bs 12, mode := byteAt bs 13,
    activeEdge := byteAt bs 14, autoResume := byteAt bs 15, timeout := half bs 16, tolerance := half bs 18,
    overrunWeight := byteAt bs 20, syncWeight := byteAt bs 21, busWeight := byteAt bs 22, lossWeight := byteAt bs 23,
    hold := byteAt bs 24, halt := byteAt bs 25, resume := byteAt bs 26 }

/-- R161: J is a power of two from 16 to 4,096. -/
def journalSizeOk (j : Nat) : Bool :=
  j == 16 || j == 32 || j == 64 || j == 128 || j == 256 || j == 512 || j == 1024 || j == 2048 || j == 4096

/-- R161, check 1. -/
def setupBoardOk (f : SetupFields) : Bool := 1 ≤ f.boardCount.toNat && f.boardCount.toNat ≤ 32

/-- R161, check 2, with the exchange area from `xbase` to `xbase + 192 + 48B − 1` (log 13: plain numbers, no wrap). -/
def setupJournalOk (xbase : Addr) (f : SetupFields) : Bool :=
  let base := f.journalBase.toNat
  let stop := base + 32 * f.journalSize.toNat
  base != 0 && base % 32 == 0 && journalSizeOk f.journalSize.toNat && stop ≤ 18446744073709551616
    && (stop ≤ xbase.toNat || xbase.toNat + boardOffset f.boardCount.toNat ≤ base)

/-- R161, check 3. -/
def setupTimeoutOk (f : SetupFields) : Bool := 64 ≤ f.timeout.toNat

/-- R161, check 4. -/
def setupHealthOk (f : SetupFields) : Bool :=
  f.overrunWeight.toNat ≤ 15 && f.syncWeight.toNat ≤ 15 && f.busWeight.toNat ≤ 15 && f.lossWeight.toNat ≤ 15
    && 1 ≤ f.hold.toNat && (f.halt.toNat == 0 || f.hold.toNat < f.halt.toNat) && f.resume.toNat < f.hold.toNat
    && (flagOf f.autoResume).isSome

/-- R161, check 5. -/
def setupSyncOk (f : SetupFields) : Bool := (flagOf f.mode).isSome && (flagOf f.activeEdge).isSome

/-- R161: the reason of the first check failed, in order. -/
def setupFailure (xbase : Addr) (f : SetupFields) : Option CmdReason :=
  if !setupBoardOk f then some .setupBoard
  else if !setupJournalOk xbase f then some .setupJournal
  else if !setupTimeoutOk f then some .setupTimeout
  else if !setupHealthOk f then some .setupHealth
  else if !setupSyncOk f then some .setupSync
  else none

/-- R162: the setup values; in internal mode T is 0 whatever the field holds. -/
def SetupFields.values (f : SetupFields) : Setup :=
  { journalBase := f.journalBase, journalSize := f.journalSize, boardCount := f.boardCount.toNat,
    mode := if f.mode = 1 then .external else .internal,
    activeEdge := if f.activeEdge = 1 then .fall else .rise,
    autoResume := f.autoResume == 1,
    timeout := f.timeout.toNat,
    tolerance := if f.mode = 1 then f.tolerance.toNat else 0,
    overrunWeight := f.overrunWeight.toNat, syncWeight := f.syncWeight.toNat, busWeight := f.busWeight.toNat,
    lossWeight := f.lossWeight.toNat, hold := f.hold.toNat, halt := f.halt.toNat, resume := f.resume.toNat }

/-! ## Host-control section (R127) -/

/-- Exchange offsets 64 to 95; the fields lie at 64, 72, 76 and 80. -/
def readHostControl (bs : List Byte) : HostControl :=
  { planAddress := quad bs 0, planGeneration := word bs 8, release := word bs 12, watermark := word bs 16 }

/-! ## Board entry (R73 to R76) -/

def readRequest (bs : List Byte) : Request :=
  { kind := byteAt bs 8, line := byteAt bs 9, opEdge := byteAt bs 10, maxCaptures := byteAt bs 11,
    priority := byteAt bs 12, atOnce := byteAt bs 13, deadline := half bs 14, earliest := word bs 16,
    p1 := half bs 20, p2 := half bs 22, p3 := half bs 24 }

/-- The operation of a request. -/
def Request.op (r : Request) : Option Operation := operationOf r.kind r.opEdge r.maxCaptures r.p1 r.p2 r.p3

/-- R80: the duration of a request. A request with no operation fails its take checks before its length is asked. -/
def Request.duration (r : Request) : Nat := r.op.elim 0 Operation.duration

/-- R80: the length in minislots: the duration divided by the minislot length, rounded up, and at least 1. -/
def lengthInMinislots (duration minislotLength : Nat) : Nat :=
  max 1 ((duration + minislotLength - 1) / minislotLength)

/-- R75, R176: the 16 bytes of a result write. -/
def resultBytes (r : ResultFields) : List Byte :=
  [byteOf r.detail.code, flagByte r.afterSwitch] ++ noField 2 ++ wordBytes r.startFrame
    ++ wordBytes (BitVec.ofNat 32 r.startTime) ++ [byteOf r.captures] ++ noField 3

/-- R76: the 4 bytes of a state word write. -/
def stateWordBytes (w : StateWord) : List Byte := wordBytes (BitVec.ofNat 32 w.code)

/-! ## Plan (R37 to R40) -/

/-- The plan header's fields. -/
structure PlanHeader where
  format : Nat
  actions : Nat
  generation : Word
  check : Word
  geometry : Geometry
  total : Nat
deriving DecidableEq, Repr

def planHeader (bs : List Byte) : PlanHeader :=
  { format := (byteAt bs 0).toNat, actions := (half bs 2).toNat, generation := word bs 4, check := word bs 8,
    geometry :=
      { frameLength := (word bs 12).toNat, slots := (byteAt bs 1).toNat, slotLength := (half bs 18).toNat,
        minislots := (half bs 16).toNat, minislotLength := (half bs 20).toNat, latestStart := (half bs 22).toNat },
    total := (word bs 24).toNat }

/-- R37: the length of a plan of `n` actions. -/
def planLength (n : Nat) : Nat := 160 + 16 * n

/-- R39: the settings of a line table entry, none when a setting holds no defined value. -/
def planLine (bs : List Byte) (l : Line) : Option LineSettings :=
  let o := 32 + 8 * l.val
  match flagOf (byteAt bs o), flagOf (byteAt bs (o + 1)), flagOf (byteAt bs (o + 2)), flagOf (byteAt bs (o + 3)) with
  | some d, some r, some f, some i => some { direction := if d then .drive else .sense, rest := r, safe := f, invert := i }
  | _, _, _, _ => none

/-- The settings a line takes from a plan. Every plan that becomes CURRENT has passed BAD_PARAM, so the default is not met. -/
def planSettings (bs : List Byte) (l : Line) : LineSettings := (planLine bs l).getD .off

/-- R40: an action record, each field as stored. -/
structure ActionRecord where
  slot : Nat
  line : Byte
  kind : Byte
  opEdge : Byte
  maxCaptures : Byte
  period : Nat
  phase : Nat
  offset : Nat
  p1 : Half
  p2 : Half
  p3 : Half
deriving DecidableEq, Repr

/-- Action record `k` of a plan. -/
def planAction (bs : List Byte) (k : Nat) : ActionRecord :=
  let o := planLength k
  { slot := (byteAt bs o).toNat, line := byteAt bs (o + 1), kind := byteAt bs (o + 2), opEdge := byteAt bs (o + 3),
    maxCaptures := byteAt bs (o + 4), period := (byteAt bs (o + 5)).toNat, phase := (byteAt bs (o + 6)).toNat,
    offset := (half bs (o + 8)).toNat, p1 := half bs (o + 10), p2 := half bs (o + 12), p3 := half bs (o + 14) }

/-- The operation of an action record. -/
def ActionRecord.op (a : ActionRecord) : Option Operation := operationOf a.kind a.opEdge a.maxCaptures a.p1 a.p2 a.p3

/-- R40: the duration of an action. -/
def ActionRecord.duration (a : ActionRecord) : Nat := a.op.elim 0 Operation.duration

/-- The action list of a plan. -/
def planActions (bs : List Byte) : List ActionRecord :=
  (List.range (planHeader bs).actions).map (planAction bs)

/-! ## Status section (R130, R176) -/

/-- The pass flags byte: BACKLOG bit 0, JUNK bit 1, RELEASE_BAD bit 2. -/
def passFlagsByte (p : Snapshot) : Byte :=
  flagByte p.backlog ||| (flagByte p.junk <<< 1) ||| (flagByte p.releaseBad <<< 2)

/-- The first status write, offsets 160 to 191. -/
def statusFirstBytes (p : Snapshot) : List Byte :=
  wordBytes p.overruns ++ wordBytes p.syncFaults ++ wordBytes p.busFaults ++ wordBytes p.recordsLost ++ noField 16

/-- The second status write, offsets 96 to 159. -/
def statusSecondBytes (p : Snapshot) : List Byte :=
  wordBytes p.serial ++ wordBytes p.frame ++ [byteOf p.engine.code, byteOf p.score, passFlagsByte p, 0]
    ++ wordBytes p.written ++ wordBytes p.released ++ wordBytes p.currentGeneration ++ wordBytes p.plan.generation
    ++ [byteOf p.plan.status.code, byteOf p.plan.detail.code] ++ noField 34

/-! ## Journal record (R110, R176) -/

/-- Bytes 0 and 1, lost-before, frame number and frame time. -/
def recordHead (kind : Nat) (r : Record) : List Byte :=
  [byteOf kind, 0] ++ halfBytes r.lostBefore ++ wordBytes r.frame ++ wordBytes (BitVec.ofNat 32 r.time)

/-- The 32 bytes of a journal write. -/
def recordBytes (r : Record) : List Byte :=
  match r.body with
  | .capture line edge (.static slot action) =>
    recordHead 1 r ++ [byteOf line.val, byteOf edge.code, 0, 0, byteOf slot, byteOf action] ++ noField 14
  | .capture line edge (.spot board tag) =>
    recordHead 1 r ++ [byteOf line.val, byteOf edge.code, 1, 0, byteOf board, 0] ++ noField 2 ++ wordBytes tag ++ noField 8
  | .mark tag board => recordHead 2 r ++ noField 4 ++ [byteOf board] ++ noField 3 ++ wordBytes tag ++ noField 8
  | .planSwitch new old => recordHead 3 r ++ noField 4 ++ wordBytes new ++ wordBytes old ++ noField 8
  | .state new cause => recordHead 4 r ++ [byteOf new.code, byteOf cause.code] ++ noField 18

/-! ## Register port reads (R172, R173, R177) -/

/-- IDENT: revision, part number, vendor code. -/
def identWord : Word :=
  BitVec.ofNat 32 (Config.revision + 256 * Config.partNumber + 1048576 * Config.vendorCode)

/-- A read of CMD. The pending flag is set exactly while the pending command is not none (R159). -/
def Control.cmdWord (c : Control) : Word :=
  BitVec.ofNat 32 (c.readback.last.toNat + 256 * c.readback.outcome.code + 65536 * c.readback.reason.code
    + 16777216 * c.readback.planReason.code + (if c.pending = .none then 0 else 2147483648))

/-- The word a read of the register port returns. A read has no effect on the part (R172), so it is no command; a read of
less than a whole word or at an invalid offset returns 0. -/
def State.readRegister (s : State) (offset size : Nat) : Word :=
  if size ≠ 4 then 0
  else match offset with
    | 0 => identWord
    | 4 => s.control.xbase.setWidth 32
    | 8 => (s.control.xbase >>> 32).setWidth 32
    | 12 => s.control.cmdWord
    | 16 => BitVec.ofNat 32 (s.control.engine.code + 256 * s.health.score)
    | 20 => if s.frameRunning then s.timer.current else s.timer.nextFrame
    | 24 => s.control.cause.setWidth 32
    | 28 => s.control.mask.setWidth 32
    | _ => 0

end Sys2Proof.Machine
end

