-- ==== Sys2Proof/Machine/Plans.lean ====
section
/-! DEFINITION. Plans and the Timetable Store (03): the ten validation checks, the two banks, the switch. -/

namespace Sys2Proof.Machine

/-! ## Validation (R43 to R49) -/

/-- R44: the cases of BAD_FORMAT that the header decides, for a load started for generation `g`. -/
def headerBadFormat (h : PlanHeader) (g : Word) : Bool :=
  h.format != 1 || h.total != planLength h.actions || h.generation != g

/-- R44, R59: an address that is not a multiple of 8. -/
def misaligned (a : Addr) : Bool := a.toNat % 8 != 0

/-- R45: BAD_GEOMETRY, with the sync tolerance of the setup (0 in internal mode). -/
def badGeometry (g : Geometry) (tolerance : Nat) : Bool :=
  !(1024 ≤ g.frameLength && g.frameLength ≤ 4194304) || !(1 ≤ g.slots && g.slots ≤ 64)
    || !(16 ≤ g.slotLength && g.slotLength ≤ 65535) || !(g.minislots ≤ 256)
    || !(8 ≤ g.minislotLength && g.minislotLength ≤ 4095)
    || (0 < g.minislots && g.minislots ≤ g.latestStart)
    || g.frameLength < g.staticLength + g.dynamicLength + Config.serviceWindowMin + tolerance

/-- R46: TOO_MANY. -/
def tooMany (count : Nat) (as : List ActionRecord) : Bool :=
  128 < count || as.any fun a => 8 < as.countP fun b => b.slot == a.slot

/-- R46: ascending order of slot index, then offset, then line. -/
def actionBefore (a b : ActionRecord) : Bool :=
  a.slot < b.slot || (a.slot == b.slot && (a.offset < b.offset || (a.offset == b.offset && a.line.toNat < b.line.toNat)))

/-- R46: every two neighbours of the list are in order. -/
def ascending : List ActionRecord → Bool
  | a :: b :: rest => actionBefore a b && ascending (b :: rest)
  | _ => true

/-- R47: BAD_FILTER for one action. -/
def badFilter (a : ActionRecord) : Bool :=
  !(a.period == 1 || a.period == 2 || a.period == 4 || a.period == 8 || a.period == 16 || a.period == 32 || a.period == 64)
    || a.period ≤ a.phase

/-- R47: BAD_PARAM for one action of a plan of `slots` slots. -/
def badParam (slots : Nat) (a : ActionRecord) : Bool :=
  slots ≤ a.slot || 15 < a.line.toNat || kindIsMark a.kind || a.op.isNone

/-- R48: OVERRUNS_SLOT for one action. -/
def overrunsSlot (slotLength : Nat) (a : ActionRecord) : Bool := slotLength < a.offset + a.duration

/-- R48, R79, R105: whether a kind does not suit a line's direction. MARK suits any line. -/
def kindMismatch (kind : Byte) (d : Direction) : Bool :=
  (kindIsOutput kind && d != .drive) || (kindIsWindow kind && d != .sense)

/-- R48: LINE_MODE for one action, against the plan's own line table. -/
def lineMode (bs : List Byte) (a : ActionRecord) : Bool :=
  kindMismatch a.kind (planSettings bs (lineOf a.line)).direction

/-- R49: two actions on one line in one slot that share a tick. -/
def clash (a b : ActionRecord) : Bool :=
  a.line == b.line && a.slot == b.slot && a.offset < b.offset + b.duration && b.offset < a.offset + a.duration

/-- R49: OVERLAP. -/
def overlapping : List ActionRecord → Bool
  | [] => false
  | a :: rest => rest.any (clash a) || overlapping rest

/-- R43: checks 2 to 10 over a plan that passed BAD_FORMAT; `bs` is the bank's copy and `crc` the register after the
plan's last byte. The reason is that of the first check failed. -/
def planFailure (bs : List Byte) (crc : Word) (tolerance : Nat) : Option PlanDetail :=
  let h := planHeader bs
  let as := planActions bs
  if crcFinish crc ≠ h.check then some .badCheck
  else if badGeometry h.geometry tolerance then some .badGeometry
  else if tooMany h.actions as then some .tooMany
  else if !ascending as then some .badOrder
  else if as.any badFilter then some .badFilter
  else if as.any (badParam h.geometry.slots) || allLines.any (fun l => (planLine bs l).isNone) then some .badParam
  else if as.any (overrunsSlot h.geometry.slotLength) then some .overrunsSlot
  else if as.any (lineMode bs) then some .lineMode
  else if overlapping as then some .overlap
  else none

/-! ## The banks (R50 to R52) -/

/-- The content of the CURRENT bank: the current plan, or no bytes when no bank is CURRENT (log 21). -/
def Store.plan (s : Store) : List Byte :=
  if s.bank0.state = .current then s.bank0.content
  else if s.bank1.state = .current then s.bank1.content
  else []

/-- The CURRENT generation (R50), 0 when no bank is CURRENT. -/
def Store.currentGeneration (s : Store) : Word :=
  if s.bank0.state = .current then s.bank0.generation
  else if s.bank1.state = .current then s.bank1.generation
  else 0

/-- The PENDING generation, none when no bank is PENDING. -/
def Store.pendingGeneration (s : Store) : Option Word :=
  if s.bank0.state = .pending then some s.bank0.generation
  else if s.bank1.state = .pending then some s.bank1.generation
  else none

/-- Change the FILLING bank. -/
def Store.onFilling (s : Store) (f : Bank → Bank) : Store :=
  { s with
    bank0 := if s.bank0.state = .filling then f s.bank0 else s.bank0
    bank1 := if s.bank1.state = .filling then f s.bank1 else s.bank1 }

/-- The content of the FILLING bank. -/
def Store.fillingContent (s : Store) : List Byte :=
  if s.bank0.state = .filling then s.bank0.content
  else if s.bank1.state = .filling then s.bank1.content
  else []

/-- R51: a load starts: the bank that is not CURRENT becomes FILLING. With no CURRENT bank this is bank 0 (R51, R71). -/
def Store.startFilling (s : Store) (g : Word) : Store :=
  let b : Bank := { state := .filling, generation := g, content := [] }
  if s.bank0.state = .current then { s with bank1 := b } else { s with bank0 := b }

/-- R59: bytes read join the FILLING bank, up to plan byte 2,207. -/
def Store.take (s : Store) (bytes : List Byte) : Store :=
  s.onFilling fun b => { b with content := (b.content ++ bytes).take Config.bankBytes }

/-- R51: a load ends without a plan, or is abandoned. -/
def Store.dropFilling (s : Store) : Store := s.onFilling fun _ => .free

/-- R51, R61: validation passes in a run. The tick is remembered (R67; log 12). -/
def Store.makePending (s : Store) : Store :=
  { s.onFilling (fun b => { b with state := .pending }) with pendingNow := true }

/-- R51, R71: validation passes during LOAD. -/
def Store.makeCurrent (s : Store) : Store := s.onFilling fun b => { b with state := .current }

/-- R67: a bank was PENDING before this instant. -/
def Store.switches (s : Store) : Bool := s.pendingGeneration.isSome && !s.pendingNow

/-- R52: the switch exchanges the roles of the two banks. -/
def Bank.switch (b : Bank) : Bank :=
  match b.state with
  | .pending => { b with state := .current }
  | .current => .free
  | .free => b
  | .filling => b

/-- R52, R67. -/
def Store.switch (s : Store) : Store := { s with bank0 := s.bank0.switch, bank1 := s.bank1.switch }

/-- The store after a frame start: switched when a bank was PENDING before it. -/
def Store.atFrameStart (s : Store) : Store := if s.switches then s.switch else s

/-! ## The frame filter and the Static Action Unit (R41, R53 to R55) -/

/-- R41: an action fires in frame F when F mod R = P. -/
def filterPasses (a : ActionRecord) (frame : Word) : Bool := frame.toNat % a.period == a.phase

/-- R53: the frame time of an action's start tick. -/
def ActionRecord.startTime (a : ActionRecord) (g : Geometry) : Nat := a.slot * g.slotLength + a.offset

/-- The action at the next-action index of the current plan. -/
def nextAction (s : State) : Option ActionRecord :=
  let plan := s.store.plan
  if s.static.active && s.static.next < (planHeader plan).actions then some (planAction plan s.static.next) else none

/-- R55: the unit becomes inactive; F is kept. -/
def StaticUnit.deactivate (u : StaticUnit) : StaticUnit := { u with active := false, next := 0 }

/-- R53: the unit at a frame start. -/
def StaticUnit.begin (frame : Word) : StaticUnit := { active := true, next := 0, frame := frame }

end Sys2Proof.Machine
end

