-- ==== Sys2Proof/Machine/Lines.lean ====
section
/-! DEFINITION. The line cells (02): the pin, output actions, bursts, windows, and the changes brought by frames, plans and
commands. -/

namespace Sys2Proof.Machine

/-! ## The pin (R19) -/

/-- What a pin does. -/
inductive Pin where
  | released
  | driven (level : Bool)
deriving DecidableEq, Repr

/-- R19: the pin from the engine state and the cell. -/
def Cell.pin (c : Cell) (engine : EngineState) : Pin :=
  match c.settings.direction with
  | .none => .released
  | .sense => .released
  | .drive =>
    match engine with
    | .idle => .released
    | .loading => .released
    | .armed => .driven (c.logical ^^ c.settings.invert)
    | .syncWait => .driven (c.logical ^^ c.settings.invert)
    | .running => .driven (c.logical ^^ c.settings.invert)
    | .held => .driven c.settings.safe
    | .halted => .driven c.settings.safe

/-- The pin of a line. -/
def State.pin (s : State) (l : Line) : Pin := (s.cells.get l).pin s.control.engine

/-- The level seen at a pin: the driven level, or what the outside gives a released pin (log 6). -/
def Pin.level (p : Pin) (outside : Bool) : Bool :=
  match p with
  | .released => outside
  | .driven b => b

/-- The level the outside gives a line. -/
def Outside.line (o : Outside) (l : Line) : Bool := o.lines.getLsbD l.val

/-! ## Output actions (R21 to R25) -/

/-- R21: at its end tick a PULSE or BURST gives the rest level, and the running output action becomes none. -/
def Cell.endAction (c : Cell) : Cell := { c with logical := c.settings.rest, running := none }

/-- R21, R22: the end of an action whose end tick has come is taken before a start at the same tick. -/
def Cell.endDue (c : Cell) (now : Nat) : Cell :=
  match c.running with
  | some r => if r.stop ≤ now then c.endAction else c
  | none => c

/-- R23: the level a LEVEL gives. -/
def LevelOp.apply (op : LevelOp) (level : Bool) : Bool :=
  match op with
  | .set => true
  | .clear => false
  | .toggle => !level

/-- R21 to R25: an output action is applied at its start tick by a cell whose direction is DRIVE. A WINDOW or MARK is no
output action and changes nothing here. -/
def Cell.applyOutput (c : Cell) (now : Nat) (op : Operation) : Cell :=
  if c.settings.direction = .drive then
    let c := c.endDue now
    match op with
    | .level o => { c with logical := o.apply c.logical }
    | .pulse w => { c with logical := !c.settings.rest, running := some { start := now, stop := now + w, op := op } }
    | .burst p d n =>
      { c with
        logical := if 0 < min d p then !c.settings.rest else c.settings.rest
        running := some { start := now, stop := now + p * n, op := op } }
    | .window _ _ _ => c
    | .mark => c
  else c

/-- R25: the level of a BURST `elapsed` ticks after its start. -/
def burstLevel (rest : Bool) (period duty elapsed : Nat) : Bool :=
  if elapsed % period < min duty period then !rest else rest

/-- R25: whether a period starts, or its duty ends, `elapsed` ticks after the start. -/
def burstChanges (period duty elapsed : Nat) : Bool :=
  elapsed % period == 0 || elapsed % period == min duty period

/-- R25: the cell at a tick at which its burst may change the logical level. -/
def Cell.burstChange (c : Cell) (now : Nat) : Cell :=
  match c.running with
  | some { start := start, stop := stop, op := .burst p d _ } =>
    if now < stop ∧ burstChanges p d (now - start) = true then
      { c with logical := burstLevel c.settings.rest p d (now - start) }
    else c
  | _ => c

/-! ## Windows (R27 to R29) -/

/-- R27: a WINDOW opens on a cell whose direction is SENSE. -/
def Cell.openWindow (c : Cell) (now : Nat) (op : Operation) (source : WindowSource) : Cell :=
  match op with
  | .window width edge maxCaptures =>
    if c.settings.direction = .sense then
      { c with window := some { edge := edge, left := maxCaptures, made := 0, closeTick := now + width, source := source } }
    else c
  | _ => c

/-- R28: a matching edge. -/
def EdgeSelect.admits (e : EdgeSelect) (k : Edge) : Bool :=
  match e, k with
  | .rise, .rise => true
  | .fall, .fall => true
  | .both, _ => true
  | _, _ => false

/-- R26: the edge between two successive samples; none without an earlier sample or a change. -/
def edgeBetween (earlier : Option Bool) (later : Bool) : Option Edge :=
  match earlier, later with
  | some false, true => some .rise
  | some true, false => some .fall
  | _, _ => none

/-- R28: the capture an edge makes at a tick: the line is SENSE, its window is open and covers the tick, and the edge matches.
An edge at the close tick is outside the window (R27). -/
def Cell.captures (c : Cell) (now : Nat) (sample : Bool) : Option (Edge × Window) :=
  match edgeBetween c.prevSample sample, c.window with
  | some e, some w =>
    if c.settings.direction = .sense ∧ now < w.closeTick ∧ w.edge.admits e = true then some (e, w) else none
  | _, _ => none

/-- R28: the window after a capture. -/
def Window.captured (w : Window) : Window := { w with left := w.left - 1, made := w.made + 1 }

/-- R28, R29: the cell after its sample of a tick: a capture is counted, and the window closes when captures left reaches 0. -/
def Cell.afterSample (c : Cell) (now : Nat) (sample : Bool) : Cell :=
  match c.captures now sample with
  | some (_, w) =>
    { c with prevSample := some sample, window := if w.captured.left = 0 then none else some w.captured }
  | none => { c with prevSample := some sample }

/-- R29: closing a window. -/
def Cell.closeWindow (c : Cell) : Cell := { c with window := none }

/-- R29: a window of a spot action reports its captures made when it closes. -/
def Window.report (w : Window) : Option (Nat × Nat) :=
  match w.source with
  | .spot board _ => some (board, w.made)
  | .static _ _ => none

/-! ## Frames, plans and commands (R31 to R36) -/

/-- R20, R32, R35: a DRIVE line's logical level goes to its rest level. -/
def Cell.toRest (c : Cell) : Cell :=
  if c.settings.direction = .drive then { c with logical := c.settings.rest } else c

/-- R33: a cell takes its entry of a new line table. A line that becomes DRIVE goes to the new rest level. A line that turns
from DRIVE to SENSE takes this tick's sample as its previous sample and finds no edge at this tick (R26): the item is empty
until that sample is taken, later in the tick (log 7). -/
def Cell.takeSettings (c : Cell) (new : LineSettings) : Cell :=
  { c with
    settings := new
    logical := if new.direction = .drive ∧ c.settings.direction ≠ .drive then new.rest else c.logical
    prevSample := if new.direction = .sense ∧ c.settings.direction = .drive then none else c.prevSample }

/-- R34: HALT cuts a running action without its ending level and closes a window. -/
def Cell.cut (c : Cell) : Cell := { c with running := none, window := none }

/-- R36: the RESET_N values, the previous sample kept (CLEAR, LOAD). -/
def Cell.clear (c : Cell) : Cell := { Cell.reset with prevSample := c.prevSample }

/-- R26: the sample of a tick. -/
def Cell.sample (c : Cell) (engine : EngineState) (outside : Bool) : Cell :=
  { c with prevSample := some ((c.pin engine).level outside) }

end Sys2Proof.Machine
end

