-- ==== Sys2Proof/Machine/Spot.lean ====
section
/-! DEFINITION. The request board's checks (05) and the Spot Queue, Dynamic Arbiter and Spot Generator (06). -/

namespace Sys2Proof.Machine

/-! ## Take checks (R79, R80) -/

/-- R79, check 3: priority, at once and the parameters the kind uses. -/
def requestBadParam (r : Request) : Bool :=
  7 < r.priority.toNat || (flagOf r.atOnce).isNone || r.op.isNone

/-- R79, R105: LINE_MODE against a plan's line table. MARK passes. -/
def requestLineMode (plan : List Byte) (r : Request) : Bool :=
  kindMismatch r.kind (planSettings plan (lineOf r.line)).direction

/-- R80: the length of a request under a geometry. -/
def Request.minislots (r : Request) (g : Geometry) : Nat := lengthInMinislots r.duration g.minislotLength

/-- R79, R80, R105: TOO_LONG under a geometry. -/
def requestTooLong (g : Geometry) (r : Request) : Bool := g.minislots == 0 || g.minislots < r.minislots g

/-- R79: the reason of the first take check failed, against the current plan. -/
def takeFailure (plan : List Byte) (r : Request) : Option OutcomeDetail :=
  if !kindKnown r.kind then some .badKind
  else if !kindIsMark r.kind && 15 < r.line.toNat then some .badLine
  else if requestBadParam r then some .badParam
  else if requestLineMode plan r then some .lineMode
  else if requestTooLong (planHeader plan).geometry r then some .tooLong
  else none

/-! ## Entries and results (R75, R93) -/

/-- R75: no run: start frame, start frame time and captures made are 0. -/
def ResultFields.idle : ResultFields :=
  { detail := .none, afterSwitch := false, startFrame := 0, startTime := 0, captures := 0 }

/-- R75, R81: the result of a request rejected at take. -/
def rejectedAtTake (reason : OutcomeDetail) : ResultFields := { ResultFields.idle with detail := reason }

/-- R75: the final state of an outcome. -/
def Ending.word : Ending → StateWord
  | .none => .empty
  | .done => .done
  | .expired => .expired
  | .cancelled => .cancelled
  | .rejected => .rejected

/-- R97: an entry becomes FINISHED with an outcome and detail. -/
def Entry.finish (e : Entry) (ending : Ending) (detail : OutcomeDetail) (afterSwitch : Bool) : Entry :=
  { e with status := .finished, ending := ending, result := { e.result with detail := detail, afterSwitch := afterSwitch } }

/-- The entry that holds a board index. -/
def Queue.find (q : Queue) (board : Nat) : Option Entry := q.entries.find? fun e => e.board == board

/-- Change the entry that holds a board index. -/
def Queue.onBoard (q : Queue) (board : Nat) (f : Entry → Entry) : Queue :=
  { q with entries := q.entries.map fun e => if e.board = board then f e else e }

/-- R96: an entry leaves the queue. -/
def Queue.remove (q : Queue) (board : Nat) : Queue :=
  { q with entries := q.entries.filter fun e => e.board != board }

/-- R94: queue order: ascending priority, then ascending take sequence, compared serially. -/
def entryBefore (a b : Entry) : Bool :=
  a.request.priority.toNat < b.request.priority.toNat
    || (a.request.priority == b.request.priority && serialBefore a.take b.take)

/-- R94: an entry joins at the place its priority and take sequence give it. -/
def insertEntry (e : Entry) : List Entry → List Entry
  | [] => [e]
  | x :: rest => if entryBefore e x then e :: x :: rest else x :: insertEntry e rest

/-- R82, R95: the entry for a request that is taken. -/
def newEntry (board : Nat) (tag : Word) (r : Request) (nextFrame take : Word) : Entry :=
  { board := board, tag := tag, request := r, earliest := if r.atOnce = 1 then nextFrame else r.earliest, take := take,
    status := .waiting, startMinislot := none, ending := .none, result := .idle }

/-- R82, R94, R95: insertion, with the next take sequence. -/
def Queue.insert (q : Queue) (board : Nat) (tag : Word) (r : Request) (nextFrame : Word) : Queue :=
  { q with
    entries := insertEntry (newEntry board tag r nextFrame q.nextTake) q.entries
    nextTake := q.nextTake + 1 }

/-- Insertion by take sequence alone. -/
def insertByTake (e : Entry) : List Entry → List Entry
  | [] => [e]
  | x :: rest => if serialBefore e.take x.take then e :: x :: rest else x :: insertByTake e rest

/-- R88, R128: the board indexes of the FINISHED entries, in ascending take sequence. -/
def Queue.finishedByTake (q : Queue) : List Nat :=
  ((q.entries.filter fun e => e.status == .finished).foldr insertByTake []).map Entry.board

/-- R29, R103: a spot window reports its captures made when it closes. -/
def Queue.report (q : Queue) : Option (Nat × Nat) → Queue
  | some (board, made) => q.onBoard board fun e => { e with result := { e.result with captures := made } }
  | none => q

/-! ## Revalidation (R105) -/

/-- R105: the check of one entry against the new plan. -/
def Entry.revalidate (plan : List Byte) (e : Entry) : Entry :=
  if e.status = .waiting then
    if requestLineMode plan e.request then e.finish .rejected .lineMode true
    else if requestTooLong (planHeader plan).geometry e.request then e.finish .rejected .tooLong true
    else e
  else e

/-- R105. -/
def Queue.revalidate (q : Queue) (plan : List Byte) : Queue :=
  { q with entries := q.entries.map (Entry.revalidate plan) }

/-! ## Expiry and placement (R98 to R101) -/

/-- R98: a WAITING entry is due in frame F when F is at or after its earliest frame. -/
def Entry.due (e : Entry) (frame : Word) : Bool := e.status == .waiting && atOrAfter frame e.earliest

/-- R99: whether an entry expires in frame F. -/
def Entry.expires (e : Entry) (frame : Word) : Bool :=
  e.due frame && e.request.deadline.toNat != 0 && e.request.deadline.toNat < (frame - e.earliest).toNat

/-- R99: expiry of one entry. -/
def Entry.expire (frame : Word) (e : Entry) : Entry :=
  if e.expires frame then e.finish .expired .none false else e

/-- R100, R101: whether the walk considers an entry in frame F. -/
def Entry.walked (e : Entry) (frame : Word) (held : Bool) : Bool :=
  e.due frame && !(held && kindIsOutput e.request.kind)

/-- R100: an entry becomes PLACED. -/
def Entry.place (e : Entry) (minislot : Nat) : Entry := { e with status := .placed, startMinislot := some minislot }

/-- R100: an entry fits at minislot `s`. -/
def Entry.fits (e : Entry) (g : Geometry) (s : Nat) : Bool :=
  s ≤ g.latestStart && s + e.request.minislots g ≤ g.minislots

/-- R100: the walk from next free minislot `s`: the entries after it, the run list and the next free minislot. It ends at
the first entry that is considered and does not fit. -/
def placeWalk (g : Geometry) (frame : Word) (held : Bool) : Nat → List Entry → List Entry × List Placement × Nat
  | s, [] => ([], [], s)
  | s, e :: rest =>
    if e.walked frame held then
      if e.fits g s then
        let r := placeWalk g frame held (s + e.request.minislots g) rest
        (e.place s :: r.1, { board := e.board, minislot := s } :: r.2.1, r.2.2)
      else (e :: rest, [], s)
    else
      let r := placeWalk g frame held s rest
      (e :: r.1, r.2)

/-- R99, R100: the dynamic-phase start: expiry, then placement from minislot 0. -/
def Queue.dynamicPhase (q : Queue) (g : Geometry) (frame : Word) (held : Bool) : Queue :=
  let r := placeWalk g frame held 0 (q.entries.map (Entry.expire frame))
  { q with entries := r.1, runList := r.2.1, nextFree := r.2.2 }

/-! ## Execution (R102, R103) -/

/-- R102: the PLACED entry of the run list that starts at a minislot. -/
def Queue.startingAt (q : Queue) (minislot : Nat) : Option Entry :=
  (q.runList.find? fun p => p.minislot == minislot).bind fun p =>
    (q.find p.board).filter fun e => e.status == .placed

/-- R102: the entry becomes EXECUTING, and the Spot Generator holds its action. -/
def Queue.execute (q : Queue) (e : Entry) (frame : Word) (time now : Nat) : Queue :=
  { q.onBoard e.board (fun e =>
      { e with status := .executing, result := { e.result with startFrame := frame, startTime := time } }) with
    action := some { board := e.board, start := now, stop := now + e.request.duration } }

/-- R103: the entry becomes FINISHED with outcome DONE, and the Spot Generator holds no action. -/
def Queue.finishAction (q : Queue) (a : SpotAction) : Queue :=
  { q.onBoard a.board (fun e => e.finish .done .none false) with action := none }

/-- R103: the open spot window of a board index, with its line, when its close tick has come. -/
def spotWindowDue (cells : Vector Cell 16) (board now : Nat) (l : Line) : Bool :=
  match (cells.get l).window with
  | some { edge := _, left := _, made := _, closeTick := t, source := .spot b _ } => b == board && t ≤ now
  | _ => false

/-- R29: the reports of the windows of the lines that satisfy `p`. -/
def windowReports (cells : Vector Cell 16) (p : Line → Bool) : List (Option (Nat × Nat)) :=
  (allLines.filter p).map fun l => (cells.get l).window.bind Window.report

/-- Take a list of window reports. -/
def Queue.reports (q : Queue) (rs : List (Option (Nat × Nat))) : Queue := rs.foldl Queue.report q

/-- R100, R109: the run list is emptied at every frame end. -/
def Queue.frameEnd (q : Queue) : Queue := { q with runList := [], action := none }

/-- R107: HALT empties the queue; the next take sequence keeps its value. -/
def Queue.empty (q : Queue) : Queue := { Queue.reset with nextTake := q.nextTake }

end Sys2Proof.Machine
end

