-- ==== Sys2Proof/Machine/Staging.lean ====
section
/-! DEFINITION. Capture Staging and the Journal Writer (07). -/

namespace Sys2Proof.Machine

/-- R112: staging holds 32 records. -/
def Staging.full (st : Staging) : Bool := Config.stagingPlaces ≤ st.records.length

/-- R113: the loss accumulator increases by one and stays at its ceiling. -/
def saturatingSucc (x : Word) : Word := if x = 0xFFFFFFFF then x else x + 1

/-- R114: the lost-before count, at most 65,535. -/
def lostBeforeOf (x : Word) : Half := if 65535 < x.toNat then 65535 else x.setWidth 16

/-- R113, R118: one record more is lost. -/
def Staging.lose (st : Staging) : Staging :=
  { st with lossAccumulator := saturatingSucc st.lossAccumulator, lost := st.lost + 1 }

/-- R34, R107: a record that HALT at the tick of its offer leaves neither written nor counted: a capture, or the record of a
MARK. -/
def RecordBody.undoneByHalt : RecordBody → Bool
  | .capture _ _ _ => true
  | .mark _ _ => true
  | .planSwitch _ _ => false
  | .state _ _ => false

/-- R113: an offered record is lost. A capture or mark is counted among the present tick's too (log 23). -/
def Staging.loseOffer (st : Staging) (body : RecordBody) : Staging :=
  { st.lose with lostNow := if body.undoneByHalt then st.lostNow + 1 else st.lostNow }

/-- R112, R114: a record joins at the back with its lost-before count, and the accumulator returns to 0. -/
def Staging.join (st : Staging) (body : RecordBody) (stamp : Word × Nat) : Staging :=
  { st with
    records := st.records ++
      [{ body := body, frame := stamp.1, time := stamp.2, lostBefore := lostBeforeOf st.lossAccumulator }]
    lossAccumulator := 0 }

/-- R112 to R114: a record is offered. It joins while staging holds fewer than 32 records. With 32 it is lost, unless the head
is at the memory port (`departing`): the head may leave at this very tick, and the record waits for that (log 23). -/
def Staging.offer (st : Staging) (departing : Bool) (body : RecordBody) (stamp : Word × Nat) : Staging :=
  if st.full then
    if departing then { st with offered := st.offered ++ [{ body := body, frame := stamp.1, time := stamp.2 }] }
    else st.loseOffer body
  else st.join body stamp

/-- R115: records offered at one tick, in the order they join. -/
def Staging.offerAll (st : Staging) (departing : Bool) (bodies : List RecordBody) (stamp : Word × Nat) : Staging :=
  bodies.foldl (fun st b => st.offer departing b stamp) st

/-- R112: the records that waited are judged in turn, after the head has left or at the end of the tick. -/
def Staging.judge (st : Staging) : Staging :=
  st.offered.foldl (fun st o => st.offer false o.body (o.frame, o.time)) { st with offered := [] }

/-- R113: whether some of `n` records offered are lost. -/
def Staging.losesSome (st : Staging) (n : Nat) : Bool := n != 0 && Config.stagingPlaces < st.records.length + n

/-- R112, R117: the head leaves. -/
def Staging.dropHead (st : Staging) : Staging := { st with records := st.records.tail }

/-- R34, R107, R125: a HALT command discards the records and the unreported losses. The captures and marks offered at this very
tick are discarded with staging and counted nowhere, those already counted as lost among them; a STATE or PLAN_SWITCH record
that waited for a place is lost (log 23). -/
def Staging.discard (st : Staging) : Staging :=
  { records := [], lossAccumulator := 0, offered := [], lostNow := 0
    lost := st.lost - st.lostNow + BitVec.ofNat 32 (st.offered.countP fun o => !o.body.undoneByHalt) }

/-- The losses of a tick that has passed stay counted. -/
def Staging.endTick (st : Staging) : Staging := { st with lostNow := 0 }

/-- R117, R125: the writer's item "write outstanding", computed from the port. -/
def State.journalWriteOutstanding (s : State) : Bool :=
  s.port.outstanding.any fun t => t.requester == .writer && !t.discard

/-- Records are offered: staging, and CAPTURE_LOSS at the Health Monitor when one is lost while a frame runs (R113). -/
def offer (bodies : List RecordBody) (stamp : Word × Nat) (s : State) : State :=
  { s with
    staging := s.staging.offerAll s.journalWriteOutstanding bodies stamp
    health := s.health.reportLoss
      (s.frameRunning && !s.journalWriteOutstanding && s.staging.losesSome bodies.length) }

/-- R112, R113: the records that waited are judged, and CAPTURE_LOSS is reported when one is lost while a frame runs. -/
def judgeOffers (s : State) : State :=
  { s with
    staging := s.staging.judge
    health := s.health.reportLoss (s.frameRunning && s.staging.losesSome s.staging.offered.length) }

/-- R123: the release count is accepted when it moves neither back past Rl nor forward past W. -/
def Writer.accepts (w : Writer) (release : Word) : Bool := (release - w.released).toNat ≤ w.unreleased

/-- R123: the hand-over of a release count and a watermark. -/
def Writer.handOver (w : Writer) (h : HostControl) : Writer :=
  { w with released := if w.accepts h.release then h.release else w.released, watermark := h.watermark }

/-- R125, R163: at LOAD, W and Rl are both set to the release count, and the watermark is handed. -/
def Writer.start (w : Writer) (h : HostControl) : Writer :=
  { w with written := h.release, released := h.release, watermark := h.watermark }

/-- R117: a write completed. -/
def Writer.wrote (w : Writer) : Writer := { w with written := w.written + 1 }

/-- R119: W − Rl equals J. -/
def Writer.journalFull (w : Writer) : Bool := w.unreleased == w.size.toNat

/-- R124: the test for the JOURNAL cause. -/
def Writer.watermarkReached (w : Writer) : Bool := w.watermark != 0 && w.watermark.toNat ≤ w.unreleased

end Sys2Proof.Machine
end

