-- ==== Sys2Proof/Machine/Port.lean ====
section
/-! DEFINITION. The memory port (09): requests, the grant, what a transfer carries, the end of a transfer. -/

namespace Sys2Proof.Machine

/-! ## Requests (R140) -/

/-- The waiting request of a requester. -/
def Port.waiting (p : Port) : Requester → Option Waiting
  | .service => p.service
  | .writer => p.writer
  | .loader => p.loader

/-- A requester makes a request. -/
def Port.request (p : Port) (q : Requester) (w : Waiting) : Port :=
  match q with
  | .service => { p with service := some w }
  | .writer => { p with writer := some w }
  | .loader => { p with loader := some w }

/-- The Service Unit asks for a transfer at an exchange offset. -/
def requestService (kind : TransferKind) (offset length : Nat) (s : State) : State :=
  { s with port := s.port.request .service { kind := kind, address := exchangeAddr s offset, length := length } }

/-- R117: the writer's write is at the port: waiting, or outstanding and not discarded. -/
def Port.writerBusy (p : Port) : Bool :=
  p.writer.isSome || p.outstanding.any fun t => t.requester == .writer && !t.discard

/-- R117: the writer asks for a write of the head record to slot W mod J while it is enabled, staging holds a record, no write
of the writer is at the port and W − Rl < J. -/
def writerWants (s : State) : Bool :=
  s.writer.enabled && !s.staging.records.isEmpty && !s.port.writerBusy && s.writer.unreleased < s.writer.size.toNat

/-- R117: the writer requests its next write when its conditions hold. -/
def pollWriter (s : State) : State :=
  { s with
    port :=
      if writerWants s then
        s.port.request .writer { kind := .journalWrite, address := s.writer.slotAddr, length := 32 }
      else s.port }

/-! ## The status snapshot (R130) -/

/-- R130, R136, R137: the values the status section carries when its first write is issued. A write that belongs to no pass
carries clear flags and the current frame number; LOAD's is written as ARMED. -/
def snapshotOf (s : State) : Snapshot :=
  let inPass := s.service.activity ≠ .statusWrite
  { serial := s.service.serial + 1
    frame := if inPass then s.service.passFrame else s.timer.current
    engine := if s.control.engine = .loading then .armed else s.control.engine
    score := s.health.score
    backlog := decide inPass && s.service.backlog
    junk := decide inPass && s.service.junk
    releaseBad := decide inPass && s.service.releaseBad
    written := s.writer.written
    released := s.writer.released
    currentGeneration := s.store.currentGeneration
    plan := s.loader.status
    overruns := s.health.overruns
    syncFaults := s.health.syncFaults
    busFaults := s.port.busFaults
    recordsLost := s.staging.lost }

/-! ## The grant (R141) -/

/-- The bytes a transfer writes; a read writes none. -/
def transferData (s : State) : TransferKind → List Byte
  | .resultWrite _ result _ => resultBytes result
  | .stateWrite _ w => stateWordBytes w
  | .statusFirst => statusFirstBytes (snapshotOf s)
  | .statusSecond => statusSecondBytes s.service.snapshot
  | .journalWrite => (s.staging.records.head?.map recordBytes).getD []
  | .setupRead => []
  | .hostControlRead => []
  | .stepARead => []
  | .planRead => []
  | .boardRead _ => []

/-- What issuing a transfer does in the Service Unit: the snapshot and the serial with the first write of step D (R130), and
the unit in hand with a unit's first transfer (R133). -/
def Service.issued (v : Service) (snapshot : Snapshot) : TransferKind → Service
  | .statusFirst => { v with serial := snapshot.serial, snapshot := snapshot, unit := .status }
  | .boardRead i => { v with unit := .scan i }
  | .resultWrite i _ _ => if v.step = .b then { v with unit := .post i } else v
  | .setupRead => v
  | .hostControlRead => v
  | .stepARead => v
  | .planRead => v
  | .stateWrite _ _ => v
  | .statusSecond => v
  | .journalWrite => v

/-- R141, R143: the granted request is issued and becomes the outstanding transfer; its timer is set. -/
def Port.issue (p : Port) (q : Requester) (w : Waiting) (data : List Byte) (now : Nat) : Port :=
  { p with
    service := if q = .service then none else p.service
    writer := if q = .writer then none else p.writer
    loader := if q = .loader then none else p.loader
    outstanding := some
      { kind := w.kind, address := w.address, length := w.length, data := data, requester := q,
        issueTick := now, expiryTick := now + p.timeout, discard := false } }

/-- Grant a requester, if it has a request waiting. -/
def grantTo (q : Requester) (s : State) : State :=
  { s with
    service := ((s.port.waiting q).map fun w => s.service.issued (snapshotOf s) w.kind).getD s.service
    port := ((s.port.waiting q).map fun w => s.port.issue q w (transferData s w.kind) s.now).getD s.port }

/-- R141: the priority order, over the requesters that satisfy `p`. -/
def firstOf (p : Requester → Bool) : Option Requester :=
  if p .service then some .service
  else if p .writer then some .writer
  else if p .loader then some .loader
  else none

/-- Whether a requester has a request waiting. -/
def Port.isWaiting (p : Port) (q : Requester) : Bool := (p.waiting q).isSome

/-- How many requests wait. -/
def Port.waitingCount (p : Port) : Nat :=
  (if p.service.isSome then 1 else 0) + (if p.writer.isSome then 1 else 0) + (if p.loader.isSome then 1 else 0)

/-- The requester the port grants: the highest priority, or none when nothing waits. -/
def Port.top (p : Port) : Option Requester := firstOf p.isWaiting

/-- R141: the port grants at the event a request is made while it is free. -/
def grantFree (s : State) : State :=
  if s.port.outstanding.isSome then s
  else match s.port.top with
    | some q => grantTo q s
    | none => s

/-- R141: the requests judged at the `n`th end of a transfer: those waiting before it, and each new one that is taken before
the end (free value; log 5). -/
def judged (before after : Port) (n : Nat) (q : Requester) : Bool :=
  after.isWaiting q && (before.isWaiting q || Config.requestTakenFirst n q)

/-- R141: the requester granted at the end of a transfer. One request that waits alone is granted in either order; when none
is judged, the new requests are granted at their own event. -/
def chosen (before after : Port) (n : Nat) : Option Requester :=
  if after.waitingCount ≤ 1 then after.top
  else match firstOf (judged before after n) with
    | some q => some q
    | none => after.top

/-- R141: the grant at the end of a transfer; `before` is the port as it stood at the end. -/
def grantAtEnd (before : Port) (s : State) : State :=
  let t := { s with choices := s.choices + 1 }
  match chosen before s.port s.choices with
  | some q => grantTo q t
  | none => t

/-- R142, R144, R146: the outstanding transfer ends, `effect` is what its requester does, and the port grants. -/
def endTransfer (effect : State → State) (s : State) : State :=
  grantAtEnd s.port (pollWriter (effect { s with port := { s.port with outstanding := none } }))

/-- R142, R143, R146: a response. `effect` names the transfers it answers and what their requester does. A response that
answers no outstanding transfer is ignored (log 3); the result of a discarded transfer is dropped. -/
def respond (effect : Transfer → Option (State → State)) (s : State) : State :=
  match s.port.outstanding with
  | none => s
  | some t =>
    match effect t with
    | none => s
    | some f => endTransfer (if t.discard then id else f) s

/-- After an event that is no end of a transfer: the writer's request, and the grant when the port is free. -/
def settlePort (s : State) : State := grantFree (pollWriter s)

/-! ## Withdrawal and discard (R146 to R148) -/

/-- Set the discard flag of the outstanding transfer when its requester satisfies `p`. -/
def Port.discardIf (p : Port) (f : Requester → Bool) : Port :=
  { p with outstanding := p.outstanding.map fun t => if f t.requester then { t with discard := true } else t }

/-- R146, R148: every waiting request is withdrawn, and the outstanding transfer's discard flag is set. -/
def Port.abandon (p : Port) : Port :=
  { p.discardIf (fun _ => true) with service := none, writer := none, loader := none }

/-- R147: a HALT verdict acts for the Service Unit and the Plan Loader alone. -/
def Port.verdictHalt (p : Port) : Port :=
  { p.discardIf (fun q => q != .writer) with service := none, loader := none }

end Sys2Proof.Machine
end

