-- ==== Sys2Proof/Machine/Loading.lean ====
section
/-! DEFINITION. The Plan Loader (04): hand-over, reads, outcomes, bus failures, abandonment; and the failure of LOAD (R164). -/

namespace Sys2Proof.Machine

/-! ## LOAD's failure (R164) -/

/-- R164: LOAD fails: the engine returns to IDLE, nothing is pending, the setup being loaded is discarded. -/
def loadFails (reason : CmdReason) (plan : PlanDetail) (s : State) : State :=
  { s with
    control :=
      { s.control.readbackIs codeLoad .failed reason plan with
        engine := .idle, pending := .none, stage := .none, loading := none } }

/-! ## The plan status (R69) -/

/-- R69: the outcome values. -/
def PlanStatusCode.isOutcome : PlanStatusCode → Bool
  | .none => false
  | .filling => false
  | .pending => true
  | .current => true
  | .rejected => true
  | .superseded => true
  | .busFailed => true

/-- R69: the status takes an outcome value, and status posted becomes no. -/
def Loader.outcome (l : Loader) (g : Word) (status : PlanStatusCode) (detail : PlanDetail) : Loader :=
  { l with status := { generation := g, status := status, detail := detail }, posted := false }

/-- R58, R69: a load that starts sets FILLING at once, unless the status holds an outcome value not yet posted. -/
def Loader.showFilling (l : Loader) (g : Word) : Loader :=
  if l.status.status.isOutcome ∧ l.posted = false then l
  else { l with status := { generation := g, status := .filling, detail := .none } }

/-- R69, R131: a step D write that carried the plan status succeeded. -/
def Loader.post (l : Loader) : Loader :=
  { l with
    posted := true
    status :=
      if l.status.status.isOutcome ∧ l.filling = true then
        { generation := l.generation, status := .filling, detail := .none }
      else l.status }

/-! ## Reads (R59) -/

/-- R58, R63, R71: the items of a load that starts. -/
def Loader.beginLoad (l : Loader) (g : Word) (address : Addr) : Loader :=
  { l with filling := true, generation := g, address := address, position := 0, total := none, crc := 0xFFFFFFFF }

/-- The load ends or is abandoned: load state IDLE, load generation 0. -/
def Loader.endLoad (l : Loader) : Loader := { l with filling := false, generation := 0 }

/-- R59, R71: the initial load reads at the Service Unit's priority, a later load at the Loader's. -/
def planRequester (s : State) : Requester := if s.control.engine = .loading then .service else .loader

/-- R59: 32 bytes for the header, then 64 bytes, the last read shorter. -/
def Loader.readLength (l : Loader) : Nat := l.total.elim 32 fun t => min 64 (t - l.position)

/-- R59: the load's next read is requested; it waits while a read of the Loader is at the port (R63). -/
def nextPlanRead (s : State) : State :=
  if s.loader.readOut = .none then
    { s with
      loader := { s.loader with readOut := .currentLoad }
      port := s.port.request (planRequester s)
        { kind := .planRead, address := s.loader.address + BitVec.ofNat 64 s.loader.position,
          length := s.loader.readLength } }
  else s

/-! ## Outcomes (R61, R65, R71) -/

/-- Whether the load in progress is LOAD's initial load. -/
def State.initialLoad (s : State) : Bool := s.control.engine == .loading

/-- R61, R71: the plan fails a check. -/
def planRejected (reason : PlanDetail) (s : State) : State :=
  let t :=
    { s with
      store := s.store.dropFilling
      loader := { (s.loader.endLoad.outcome s.loader.generation .rejected reason) with lastRefused := s.loader.generation }
      control := s.control.raise .plan }
  if s.initialLoad then loadFails .planRejected reason t else t

/-- R65, R71: a read of the load in progress fails. -/
def planBusFailed (detail : PlanDetail) (s : State) : State :=
  let t :=
    { s with
      store := s.store.dropFilling
      loader := s.loader.endLoad.outcome s.loader.generation .busFailed detail
      control := s.control.raise .plan }
  if s.initialLoad then loadFails .bus .none t else t

/-- R61: the plan passes in a run: the bank becomes PENDING. -/
def planPending (s : State) : State :=
  { s with
    store := s.store.makePending
    loader := s.loader.endLoad.outcome s.loader.generation .pending .none }

/-- R71, R137, R163: the initial plan passes: bank 0 becomes CURRENT and LOAD's status write is requested. -/
def planCurrent (s : State) : State :=
  requestService .statusFirst 160 32
    { s with
      store := s.store.makeCurrent
      loader := s.loader.endLoad.outcome s.loader.generation .current .none
      control := { s.control.raise .plan with stage := .statusWrite }
      service := { s.service with activity := .statusWrite, step := .d } }

/-- The setup that validation uses: the one being loaded during LOAD, else the one in force (R43). -/
def State.setupInUse (s : State) : Setup := if s.initialLoad then s.control.loading.getD s.control.setup else s.control.setup

/-- R61: the last read has completed: checks 2 to 10 are made and the outcome takes effect. -/
def judgePlan (s : State) : State :=
  match planFailure s.store.fillingContent s.loader.crc s.setupInUse.tolerance with
  | some reason => planRejected reason s
  | none => if s.initialLoad then planCurrent s else planPending s

/-- R42, R59: the header as it passes through the CRC, with the check word's bytes taken as zero. -/
def zeroCheckWord (bs : List Byte) : List Byte := bs.take 8 ++ [0, 0, 0, 0] ++ bs.drop 12

/-- R59: the bytes of a read of the load in progress are taken in. -/
def takePlanBytes (bytes : List Byte) (s : State) : State :=
  { s with
    store := s.store.take bytes
    loader :=
      { s.loader with
        crc := crcBytes s.loader.crc (if s.loader.position = 0 then zeroCheckWord bytes else bytes)
        position := s.loader.position + bytes.length
        readOut := .none } }

/-- R44, R59: the header is judged, then the total length is known. -/
def judgeHeader (s : State) : State :=
  let h := planHeader s.store.fillingContent
  if headerBadFormat h s.loader.generation then planRejected .badFormat s
  else nextPlanRead { s with loader := { s.loader with total := some (planLength h.actions) } }

/-- R59 to R61: what follows a completed read of the load in progress. -/
def afterPlanBytes (s : State) : State :=
  match s.loader.total with
  | none => judgeHeader s
  | some total => if total ≤ s.loader.position then judgePlan s else nextPlanRead s

/-- R63, R65: a STALE read ended: its data are discarded, and the first read of the load in progress may go. -/
def staleReadEnds (s : State) : State :=
  let t := { s with loader := { s.loader with readOut := .none } }
  if s.loader.filling then nextPlanRead t else t

/-- R59, R63: a plan read completed with these bytes. -/
def planReadReturns (bytes : List Byte) (s : State) : State :=
  match s.loader.readOut with
  | .none => s
  | .stale => staleReadEnds s
  | .currentLoad => afterPlanBytes (takePlanBytes bytes s)

/-- R65: a plan read failed. -/
def planReadFails (detail : PlanDetail) (s : State) : State :=
  match s.loader.readOut with
  | .none => s
  | .stale => staleReadEnds s
  | .currentLoad => planBusFailed detail { s with loader := { s.loader with readOut := .none } }

/-! ## Starting and overtaking (R57, R58, R63, R64, R71) -/

/-- R59: the load address is checked before the first read. -/
def firstRead (s : State) : State :=
  if misaligned s.loader.address then planRejected .badFormat s else nextPlanRead s

/-- R57: an eligible generation. -/
def eligible (s : State) (g : Word) : Bool :=
  g != 0 && g != s.store.currentGeneration && s.store.pendingGeneration != some g && g != s.loader.lastRefused

/-- R58: a load starts in the bank that is not CURRENT. -/
def startLoad (address : Addr) (g : Word) (s : State) : State :=
  firstRead
    { s with
      store := s.store.startFilling g
      loader := (s.loader.showFilling g).beginLoad g address }

/-- R63: an outstanding read of the load given up is marked STALE. -/
def ReadOutstanding.giveUp : ReadOutstanding → ReadOutstanding
  | .none => .none
  | .currentLoad => .stale
  | .stale => .stale

/-- R63: the load in progress is overtaken. -/
def overtake (address : Addr) (g : Word) (s : State) : State :=
  firstRead
    { s with
      store := s.store.onFilling fun b => { b with generation := g, content := [] }
      loader :=
        { (s.loader.outcome s.loader.generation .superseded .none).beginLoad g address with
          readOut := s.loader.readOut.giveUp }
      control := s.control.raise .plan }

/-- R57, R58, R63, R64: the hand-over of a plan address and generation. -/
def handOverPlan (address : Addr) (g : Word) (s : State) : State :=
  if (s.control.engine = .running ∨ s.control.engine = .held) ∧ eligible s g = true then
    if s.loader.filling then
      if g ≠ s.loader.generation then overtake address g s else s
    else if s.store.pendingGeneration.isNone then startLoad address g s
    else s
  else s

/-- R71: the initial load. -/
def startInitialLoad (address : Addr) (g : Word) (s : State) : State :=
  firstRead
    { s with
      store := s.store.startFilling g
      loader :=
        { s.loader.beginLoad g address with status := { generation := g, status := .filling, detail := .none } } }

/-- R66: STOP abandons a load: the bank is FREE, an outstanding read STALE, the plan status unchanged. -/
def Loader.abandonAtStop (l : Loader) : Loader := { l.endLoad with readOut := l.readOut.giveUp }

/-- R66, R72: HALT abandons a load: the port discards its read. -/
def Loader.abandonAtHalt (l : Loader) : Loader := { l.endLoad with readOut := .none }

end Sys2Proof.Machine
end

