-- ==== Sys2Proof/Machine/Pass.lean ====
section
/-! DEFINITION. The Service Unit (08) and the part's side of the request board (05): the pass, its steps, the tail, the
closing status write. -/

namespace Sys2Proof.Machine

/-! ## Starting and ending (R126, R132, R136) -/

/-- R126: a pass begins with the read of step A. -/
def startPass (s : State) : State :=
  requestService .stepARead 64 32
    { s with
      service :=
        { s.service with
          activity := .pass, step := .a, backlog := false, junk := false, releaseBad := false, noted := false,
          boardPos := 0, postList := [], unit := .none, owed := false, passFrame := s.timer.current } }

/-- What follows the end of a pass, a tail or a closing write: a closing write that waits for it (R136), else an owed pass
(R126), else nothing. -/
def serviceFree (s : State) : State :=
  let t := { s with service := { s.service with activity := .none, unit := .none } }
  if s.service.closingOwed then
    { t with service := { t.service with activity := .closingWait, closingOwed := false } }
  else if s.service.owed then startPass t
  else t

/-- R132: the evaluations at the end of a pass. -/
def passEvaluations (s : State) : State :=
  { s with
    control := (s.control.raiseIf s.service.noted .result).raiseIf s.writer.watermarkReached .journal }

/-! ## Step D (R130, R131) -/

/-- R130: step D begins by requesting its first write. -/
def beginStatus (s : State) : State :=
  requestService .statusFirst 160 32 { s with service := { s.service with step := .d, unit := .none } }

/-- R163: LOAD succeeds at the end of its status write. -/
def loadSucceeds (s : State) : State :=
  { s with
    control :=
      { s.control.readbackIs codeLoad .done .none .none with
        engine := .armed, pending := .none, stage := .none, setup := s.control.loading.getD s.control.setup,
        loading := none }
    cells := mapCells s.cells fun l c =>
      (c.takeSettings (planSettings s.store.plan l)).toRest
    writer := { s.writer with enabled := true }
    service := { s.service with activity := .none, unit := .none } }

/-- R131, R132, R136, R137: step D ends, successful or not. -/
def statusEnds (s : State) : State :=
  match s.service.activity with
  | .pass => serviceFree (passEvaluations s)
  | .tail => serviceFree s
  | .statusWrite => if s.control.engine = .loading then loadSucceeds s else serviceFree s
  | .none => s
  | .closingWait => s

/-- R131: the plan status is posted when it still equals the snapshot's. -/
def postStatus (s : State) : State :=
  { s with loader := if s.loader.status = s.service.snapshot.plan then s.loader.post else s.loader }

/-! ## Steps B and C (R88, R128, R129) -/

/-- R129: the scan reads the next entry, or ends. -/
def scanNext (s : State) : State :=
  if s.service.boardPos < s.control.setup.boardCount then
    requestService (.boardRead s.service.boardPos) (boardOffset s.service.boardPos) 48
      { s with service := { s.service with unit := .none } }
  else beginStatus s

/-- The scan begins. -/
def beginScan (s : State) : State :=
  scanNext { s with service := { s.service with step := .c, postList := [], unit := .none } }

/-- The result write of an entry, to be followed by a state write of `final`. -/
def requestResult (board : Nat) (result : ResultFields) (final : StateWord) (s : State) : State :=
  requestService (.resultWrite board result final) (boardOffset board + 32) 16 s

/-- A state word write. -/
def requestState (board : Nat) (w : StateWord) (s : State) : State :=
  requestService (.stateWrite board w) (boardOffset board) 4 s

/-- R88, R128: step B posts the first entry of the list that the queue still holds. With an empty list step B ends. -/
def postFrom : List Nat → State → State
  | [], s => beginScan s
  | i :: rest, s =>
    match s.queue.find i with
    | some e =>
      requestResult i e.result e.ending.word
        { s with service := { s.service with postList := i :: rest, unit := .none } }
    | none => postFrom rest s

/-- R128: step B begins with the FINISHED entries in ascending take sequence. -/
def beginPosting (s : State) : State :=
  postFrom s.queue.finishedByTake { s with service := { s.service with step := .b } }

/-- R128, R129, R133: the last transfer of a unit of step B or C has ended: the pass goes on with the next unit, or the tail
ends. That the unit finished in a tail neither leaves the post list nor advances the board position, which both stay as the cut
left them until the next pass, is the model's choice (log 28). -/
def unitEnds (s : State) : State :=
  match s.service.activity with
  | .pass =>
    match s.service.step with
    | .b => postFrom s.service.postList.tail s
    | .c => scanNext { s with service := { s.service with boardPos := s.service.boardPos + 1 } }
    | .a => s
    | .d => s
  | .tail => serviceFree s
  | .none => s
  | .closingWait => s
  | .statusWrite => s

/-! ## Step A (R127) -/

/-- R127: the hand-overs of step A, with the host-control values as they stand. -/
def handOvers (s : State) : State :=
  let h := s.service.hostControl
  handOverPlan h.planAddress h.planGeneration
    { s with
      writer := s.writer.handOver h
      service := { s.service with releaseBad := s.service.releaseBad || !s.writer.accepts h.release } }

/-- R127, R133: step A ends: step B begins, or the tail ends. -/
def stepAEnds (s : State) : State :=
  match s.service.activity with
  | .pass => beginPosting s
  | .tail => serviceFree s
  | .none => s
  | .closingWait => s
  | .statusWrite => s

/-! ## The scan of one entry (R77 to R87) -/

/-- R79, R81 to R83: an entry read as POSTED whose index is not held. -/
def takePosted (board : Nat) (tag : Word) (r : Request) (s : State) : State :=
  match takeFailure s.store.plan r with
  | some reason => requestResult board (rejectedAtTake reason) .rejected s
  | none =>
    if s.queue.entries.length < Config.queuePlaces then
      requestState board .taken { s with queue := s.queue.insert board tag r s.timer.nextFrame }
    else unitEnds { s with service := { s.service with backlog := true } }

/-- R84: an entry read as POSTED whose index is held. -/
def postedHeld (board : Nat) (e : Entry) (s : State) : State :=
  if e.status = .finished then unitEnds s else requestState board .taken s

/-- R85, R86: an entry read as CANCEL_REQ. -/
def cancelRead (board : Nat) (s : State) : State :=
  match s.queue.find board with
  | some e =>
    if e.status = .waiting then
      requestResult board (e.finish .cancelled .cancelled false).result .cancelled
        { s with queue := s.queue.onBoard board fun e => e.finish .cancelled .cancelled false }
    else unitEnds s
  | none => requestState board .cancelLate s

/-- R77 to R87: the entry is handled by the value its state word held in the read. -/
def handleEntry (board : Nat) (bytes : List Byte) (s : State) : State :=
  match stateWordOf (word bytes 0) with
  | some .posted =>
    match s.queue.find board with
    | some e => postedHeld board e s
    | none => takePosted board (word bytes 4) (readRequest bytes) s
  | some .cancelReq => cancelRead board s
  | some .empty => unitEnds s
  | some .taken => unitEnds s
  | some .done => unitEnds s
  | some .expired => unitEnds s
  | some .cancelled => unitEnds s
  | some .rejected => unitEnds s
  | some .cancelLate => unitEnds s
  | none => unitEnds { s with service := { s.service with junk := true } }

/-! ## Board writes (R85, R88, R89) -/

/-- R89: a final state written successfully is noted in a pass, and raises RESULT in a tail. -/
def noteFinal (w : StateWord) (s : State) : State :=
  { s with
    service := { s.service with noted := s.service.noted || (w.isFinal && s.service.activity == .pass) }
    control := s.control.raiseIf (w.isFinal && s.service.activity == .tail) .result }

/-- R85, R88, R96: the entry leaves the queue when its final state has been written: any posted by step B, and one cancelled
by step C. -/
def removeAnswered (board : Nat) (w : StateWord) (s : State) : State :=
  { s with
    queue :=
      match s.service.unit with
      | .post _ => s.queue.remove board
      | .scan _ => if w = .cancelled then s.queue.remove board else s.queue
      | .none => s.queue
      | .status => s.queue }

/-! ## Frame end, stop and halt (R133 to R138) -/

/-- R133: whether the unit in hand goes on after a cut: its transfer is outstanding, or its first transfer has been issued. -/
def workInHand (s : State) : Bool :=
  (s.port.outstanding.any fun t => t.requester == .service && !t.discard)
    || (s.port.service.isSome && s.service.unit != .none)

/-- R132, R133, R135: a frame end at the Service Unit: a pass is cut and its causes evaluated; an owed pass is dropped;
either is an overrun. -/
def serviceFrameEnd (s : State) : State :=
  let cut := s.service.activity == .pass
  { s with
    service :=
      { s.service with
        owed := false
        activity := if cut then (if workInHand s then .tail else .none) else s.service.activity
        unit := if cut && !workInHand s then .none else s.service.unit }
    port := { s.port with service := if cut && !workInHand s then none else s.port.service }
    control :=
      (s.control.raiseIf (cut && s.service.noted) .result).raiseIf (cut && s.writer.watermarkReached) .journal
    health := if cut || s.service.owed then s.health.reportOverrun else s.health }

/-- R136: entry into ARMED by STOP asks for a closing write, after a tail or a status write in progress. -/
def Service.stopped (v : Service) : Service :=
  match v.activity with
  | .none => { v with activity := .closingWait }
  | .closingWait => v
  | .tail => { v with closingOwed := true }
  | .statusWrite => { v with closingOwed := true }
  | .pass => v

/-- R136: START abandons a closing write whose first write has not been issued. -/
def Service.started (v : Service) (issued : Bool) : Service :=
  match v.activity with
  | .closingWait => { v with activity := .none, closingOwed := false }
  | .statusWrite => if issued then { v with closingOwed := false } else { v with activity := .none, closingOwed := false }
  | .none => { v with closingOwed := false }
  | .tail => { v with closingOwed := false }
  | .pass => { v with closingOwed := false }

/-- R136: whether the first write of the status write in progress has been issued. -/
def statusIssued (s : State) : Bool :=
  match s.port.service with
  | some { kind := .statusFirst, address := _, length := _ } => false
  | _ => true

/-- R138: HALT ends whatever the Service Unit is doing; host-control values and serial are kept. -/
def Service.halted (v : Service) : Service :=
  { v with
    activity := .none, postList := [], boardPos := 0, unit := .none, backlog := false, junk := false,
    releaseBad := false, noted := false, owed := false, closingOwed := false }

/-- R134, R136: a HALT verdict ends a tail or a closing write. R138 has no column for it: post list, board position, pass
flags and final state noted stay as the cut left them (the model's choice, log 25). -/
def Service.verdictHalted (v : Service) : Service :=
  { v with activity := .none, unit := .none, owed := false, closingOwed := false }

/-- R136: the closing write is due: staging is empty or the journal is full. -/
def closingDue (s : State) : Bool :=
  s.service.activity == .closingWait && (s.staging.records.isEmpty || s.writer.journalFull)

/-- R136: the closing status write begins. -/
def beginClosing (s : State) : State :=
  beginStatus { s with service := { s.service with activity := .statusWrite } }

end Sys2Proof.Machine
end

