-- ==== Sys2Proof/Machine/Frame.lean ====
section
/-! DEFINITION. The frame start, the frame end and its settlement (01, 10, 11): one operation each, shared by the internal
frame end, the accepted edge, the missing edge, START and the first edge. -/

namespace Sys2Proof.Machine

/-! ## Frame start (R2 to R5, R16, R67) -/

/-- R2, R4, R5, R10, R12, R16: the Frame Timer at a frame start. -/
def Timer.startFrame (t : Timer) (g : Geometry) (mode : StartMode) : Timer :=
  { t with
    frameTime := some 0
    nextFrame := t.nextFrame + 1
    current := t.nextFrame
    geometry := g
    phase := .static 0
    acceptance := match mode with
      | .internal => .off
      | .external => .earlyZone
    earlySeen := false
    syncOut := true }

/-- R14, R15, R17: no frame runs: the frame numbers, the geometry copy and the last frame length stay. That a HALT verdict
too clears the early-seen flag is the model's choice (log 24). -/
def Timer.noFrame (t : Timer) : Timer :=
  { t with frameTime := none, phase := .none, acceptance := .off, earlySeen := false, syncOut := false }

/-- R32, R33: a line cell at a frame start, with the switch and the return from HELD to RUNNING that may fall there. -/
def Cell.atFrameStart (c : Cell) (switched : Option LineSettings) (returning : Bool) : Cell :=
  let d := (switched.map c.takeSettings).getD c
  if returning then d.toRest else d

/-- R115: the records of a frame start in the order they join: a STATE record, then the PLAN_SWITCH record of R68. -/
def frameStartRecords (change : Option RecordBody) (store : Store) : List RecordBody :=
  change.toList ++
    (if store.switches then [.planSwitch store.atFrameStart.currentGeneration store.currentGeneration] else [])

/-- R2, R4, R6, R32, R53, R67, R149: a frame starts. `change` is the STATE record of the engine's change at this instant and
`returning` the passage from HELD to RUNNING. -/
def frameStart (change : Option RecordBody) (returning : Bool) (s : State) : State :=
  let sw := s.store.switches
  let store := s.store.atFrameStart
  offer (frameStartRecords change s.store) (s.timer.nextFrame, 0)
    { s with
      timer := s.timer.startFrame (planHeader store.plan).geometry s.control.setup.mode
      store := store
      static := StaticUnit.begin s.timer.nextFrame
      cells := mapCells s.cells fun l c =>
        c.atFrameStart (if sw then some (planSettings store.plan l) else none) returning
      loader := if sw then s.loader.outcome store.currentGeneration .current .none else s.loader
      queue := if sw then s.queue.revalidate store.plan else s.queue
      control := s.control.raiseIf sw .plan
      health := { s.health with faults := .empty } }

/-! ## Settlement (R170) -/

/-- R170: what a frame end leaves: the engine state, how the pending command ends, and the cause of a change of state. -/
structure Settlement where
  engine : EngineState
  ended : Option CmdOutcome
  cause : Option StateCause
deriving DecidableEq, Repr

/-- R170: the table. LOAD is never pending while a frame runs, and its row is that of no pending command. -/
def settle (engine : EngineState) (pending : PendingCommand) (v : Verdict) : Settlement :=
  match pending, v with
  | .none, .halt => { engine := .halted, ended := none, cause := some .health }
  | .none, .hold => { engine := .held, ended := none, cause := some .health }
  | .none, .release => { engine := .running, ended := none, cause := some .health }
  | .none, .none => { engine := engine, ended := none, cause := none }
  | .load, .halt => { engine := .halted, ended := none, cause := some .health }
  | .load, .hold => { engine := .held, ended := none, cause := some .health }
  | .load, .release => { engine := .running, ended := none, cause := some .health }
  | .load, .none => { engine := engine, ended := none, cause := none }
  | .stop, .halt => { engine := .halted, ended := some .overridden, cause := some .health }
  | .stop, .hold => { engine := .armed, ended := some .done, cause := some .command }
  | .stop, .release => { engine := .armed, ended := some .done, cause := some .command }
  | .stop, .none => { engine := .armed, ended := some .done, cause := some .command }
  | .resume, .halt => { engine := .halted, ended := some .overridden, cause := some .health }
  | .resume, .hold => { engine := .held, ended := some .overridden, cause := none }
  | .resume, .release => { engine := .running, ended := some .done, cause := some .command }
  | .resume, .none => { engine := .running, ended := some .done, cause := some .command }

/-- R154, R159, R170: Engine Control takes a settlement. -/
def Control.settled (c : Control) (r : Settlement) : Control :=
  let d := match r.ended with
    | some o => { c.readbackIs c.pending.code o .none .none with pending := .none }
    | none => c
  ({ d with engine := r.engine } : Control).raiseIf (decide (r.cause = some .health)) .health

/-- R111: the STATE record of a settlement. -/
def Settlement.record (r : Settlement) : Option RecordBody := r.cause.map fun c => .state r.engine c

/-! ## Frame end (R14) -/

/-- R3, R11, R29, R100, R133: what a frame end brings before it is scored. `missing` is the report of SYNC_MISSING. -/
def closeFrame (missing : Bool) (s : State) : State :=
  serviceFrameEnd
    { s with
      timer := { s.timer with lastLength := s.timer.frameTime.getD s.timer.lastLength }
      cells := mapCells s.cells fun _ c => c.closeWindow
      queue := (s.queue.reports (windowReports s.cells fun _ => true)).frameEnd
      health := if missing then s.health.reportSync else s.health }

/-- R151: the ending frame is scored. -/
def scoreFrame (s : State) : State :=
  { s with health := { s.health with score := scoreAfter s.control.setup s.health.score s.health.faults } }

/-- R149: the reports of an instant at which no frame starts belong to no frame, and the fault set is empty. -/
def dropReports (s : State) : State := { s with health := { s.health with faults := .empty, faultsNow := .empty } }

/-- R14, R35, R55, R66, R136, R166: a pending STOP completes. -/
def stopCompletes (change : Option RecordBody) (s : State) : State :=
  dropReports
    (offer change.toList (s.timer.current, s.timer.lastLength)
      { s with
        timer := s.timer.noFrame
        cells := mapCells s.cells fun _ c => c.toRest
        store := s.store.dropFilling
        static := s.static.deactivate
        loader := s.loader.abandonAtStop
        queue := { s.queue with nextFree := 0 }
        service := s.service.stopped })

/-- R14, R55, R66, R134, R147: a HALT verdict is applied. R109 has no column for it: the queue keeps its entries (log 10), and
the next free minislot is set to 0 as at a STOP (the model's choice, log 29). The Journal Writer goes on (R120). -/
def verdictHalts (change : Option RecordBody) (s : State) : State :=
  dropReports
    (offer change.toList (s.timer.current, s.timer.lastLength)
      { s with
        timer := s.timer.noFrame
        store := s.store.dropFilling
        static := s.static.deactivate
        loader := s.loader.abandonAtHalt
        queue := { s.queue with nextFree := 0 }
        service := s.service.verdictHalted
        port := s.port.verdictHalt })

/-- R14: what follows the settlement of a frame end. Only the four states a frame end can leave do anything. -/
def afterSettlement (r : Settlement) (wasHeld : Bool) (s : State) : State :=
  match r.engine with
  | .running => frameStart r.record wasHeld s
  | .held => frameStart r.record false s
  | .armed => stopCompletes r.record s
  | .halted => verdictHalts r.record s
  | .idle => s
  | .loading => s
  | .syncWait => s

/-- The settlement of a scored frame (R153, R170). -/
def State.settlement (s : State) : Settlement :=
  settle s.control.engine s.control.pending
    (verdict s.control.setup s.health.score s.control.engine s.control.pending)

/-- R153, R170: the verdict is settled with the pending command. -/
def settleFrame (s : State) : State :=
  afterSettlement s.settlement (s.control.engine == .held) { s with control := s.control.settled s.settlement }

/-- R14: a frame end. -/
def frameEnd (missing : Bool) (s : State) : State := settleFrame (scoreFrame (closeFrame missing s))

end Sys2Proof.Machine
end

