-- ==== Sys2Proof/Machine/Commands.lean ====
section
/-! DEFINITION. What the host does at the register port and at RESET_N: the six commands (R158 to R169), the writes of the
other words (R172, R173), RESET_N (R174). -/

namespace Sys2Proof.Machine

/-! ## Judging a command (R158) -/

/-- R158, tests 3 and 4: a command other than HALT is refused while a command is pending, then when the state does not accept
it; else it is taken. -/
def judgeCommand (code : Byte) (accepted : Bool) (taken : State → State) (s : State) : State :=
  if s.control.pending ≠ .none then { s with control := s.control.refuse code .refusedBusy }
  else if accepted then taken s
  else { s with control := s.control.refuse code .refusedState }

/-! ## LOAD (R160) -/

/-- R17: the Frame Timer when LOAD is taken. -/
def Timer.loaded (t : Timer) : Timer := { Timer.reset with syncSample := t.syncSample }

/-- R56: the banks when LOAD is taken, and at CLEAR. -/
def Store.freed (s : Store) : Store := { s with bank0 := .free, bank1 := .free }

/-- R72: the Plan Loader when LOAD is taken. The plan status and the items of a load are set when the initial load starts
(log 15). -/
def Loader.loadTaken (l : Loader) : Loader :=
  { l with filling := false, generation := 0, readOut := .none, lastRefused := 0, posted := true }

/-- R125: the Journal Writer when LOAD is taken. -/
def Writer.loadTaken (w : Writer) : Writer := { w with enabled := false }

/-- R148: the memory port when LOAD is taken. -/
def Port.loadTaken (p : Port) : Port :=
  { p with service := none, writer := none, loader := none, timeout := Config.resetTimeout, busFaults := 0 }

/-- R160: LOAD is taken: every block goes to its LOAD-taken values, and the setup read is requested. -/
def takeLoad (s : State) : State :=
  grantFree
    (requestService .setupRead 0 64
      { s with
        control :=
          { s.control.readbackIs codeLoad .accepted .none .none with
            engine := .loading, pending := .load, stage := .setupRead, loading := none }
        timer := s.timer.loaded
        cells := mapCells s.cells fun _ c => c.clear
        store := s.store.freed
        static := s.static.deactivate
        loader := s.loader.loadTaken
        queue := .reset
        staging := .reset
        writer := s.writer.loadTaken
        service := s.service.halted
        port := s.port.loadTaken
        health := .reset })

/-- LOAD written (R158, R160): accepted in IDLE. -/
def loadWritten (s : State) : State := judgeCommand codeLoad (s.control.engine == .idle) takeLoad s

/-! ## START (R165) -/

/-- R109, R136, R156, R165: what START does in either mode. R136 abandons a closing write not yet issued, and the model takes
its waiting request back from the port; the port's own rules name no withdrawal at START (log 26). -/
def startShared (engine : EngineState) (s : State) : State :=
  { s with
    control := { s.control.readbackIs codeStart .accepted .none .none with engine := engine }
    queue := { s.queue with runList := [], action := none }
    service := s.service.started (statusIssued s)
    port := if s.service.activity = .statusWrite ∧ statusIssued s = false then { s.port with service := none } else s.port
    health := { s.health with score := 0, faults := .empty } }

/-- R8, R165: START in internal mode starts the first frame. -/
def startInternal (s : State) : State :=
  frameStart (some (.state .running .command)) false (startShared .running s)

/-- R13, R165: START in external mode waits for the first edge. -/
def startExternal (s : State) : State :=
  let t := startShared .syncWait s
  { t with timer := { t.timer with acceptance := .awaitFirst, earlySeen := false } }

/-- R165: START is taken. -/
def takeStart (s : State) : State :=
  match s.control.setup.mode with
  | .internal => settlePort (startInternal s)
  | .external => startExternal s

/-- START written (R158, R165): accepted in ARMED. -/
def startWritten (s : State) : State := judgeCommand codeStart (s.control.engine == .armed) takeStart s

/-! ## STOP (R166) -/

/-- R166: STOP taken in RUNNING or HELD becomes pending. -/
def stopPends (s : State) : State :=
  { s with control := { s.control.readbackIs codeStop .accepted .none .none with pending := .stop } }

/-- R17, R35, R51, R136, R166: STOP taken in SYNC_WAIT completes at once. -/
def stopInSyncWait (s : State) : State :=
  settlePort
    (offer [.state .armed .command] (s.timer.current, s.timer.lastLength)
      { s with
        control := { s.control.readbackIs codeStop .accepted .none .none with engine := .armed }
        timer := { s.timer with acceptance := .off }
        cells := mapCells s.cells fun _ c => c.toRest
        store := s.store.dropFilling
        service := s.service.stopped })

/-- R166: STOP is taken. -/
def takeStop (s : State) : State := if s.control.engine = .syncWait then stopInSyncWait s else stopPends s

/-- R158: the states that accept STOP. -/
def acceptsStop (e : EngineState) : Bool := e == .running || e == .held || e == .syncWait

/-- STOP written (R158, R166). -/
def stopWritten (s : State) : State := judgeCommand codeStop (acceptsStop s.control.engine) takeStop s

/-! ## RESUME (R167) -/

/-- R158, R167: RESUME is accepted in HELD when the score is at most Q. -/
def acceptsResume (s : State) : Bool :=
  s.control.engine == .held && decide (s.health.score ≤ s.control.setup.resume)

/-- R167: RESUME becomes pending. -/
def takeResume (s : State) : State :=
  { s with control := { s.control.readbackIs codeResume .accepted .none .none with pending := .resume } }

/-- RESUME written (R158, R167). -/
def resumeWritten (s : State) : State := judgeCommand codeResume (acceptsResume s) takeResume s

/-! ## HALT (R168) -/

/-- R164, R168: Engine Control at HALT: the readback that follows from the pending command. -/
def Control.halted (c : Control) : Control :=
  { (match c.pending with
    | .none => c.readbackIs codeHalt .accepted .none .none
    | .load => c.readbackIs codeLoad .failed .halted .none
    | .stop => c.readbackIs codeStop .overridden .none .none
    | .resume => c.readbackIs codeResume .overridden .none .none) with
    engine := .halted, pending := .none, stage := .none, loading := none }

/-- R51, R56: the banks at HALT: a FILLING bank becomes FREE, and bank 0 too when a LOAD is ended. -/
def Store.halted (s : Store) (loading : Bool) : Store :=
  { s.dropFilling with bank0 := if loading then .free else s.dropFilling.bank0 }

/-- R168: HALT is taken in a state other than HALTED. -/
def haltEngine (s : State) : State :=
  { s with
    control := s.control.halted
    timer := s.timer.noFrame
    cells := mapCells s.cells fun _ c => c.cut
    store := s.store.halted (s.control.engine == .loading)
    static := s.static.deactivate
    loader := s.loader.abandonAtHalt
    queue := s.queue.empty
    staging := s.staging.discard
    writer := { s.writer with enabled := false }
    service := s.service.halted
    port := s.port.abandon
    health := { s.health with faults := .empty, faultsNow := .empty } }

/-- R168: HALT taken in HALTED sets the readback. It acts "in any state" on the line cells (R34), the Spot Queue (R107) and
the Service Unit (R138), so what a HALT verdict left there goes; staging, the writer and the port go on (R120, R146). -/
def haltAgain (s : State) : State :=
  { s with
    control := s.control.readbackIs codeHalt .accepted .none .none
    cells := mapCells s.cells fun _ c => c.cut
    queue := s.queue.empty
    service := s.service.halted }

/-- HALT written (R158, test 2; R168): taken in every state. -/
def haltWritten (s : State) : State := if s.control.engine = .halted then haltAgain s else haltEngine s

/-! ## CLEAR (R169) -/

/-- R169: Engine Control at CLEAR: B is 0, the other setup values stay. -/
def Control.cleared (c : Control) : Control :=
  { c.readbackIs codeClear .accepted .none .none with
    engine := .idle, pending := .none, stage := .none, loading := none, setup := { c.setup with boardCount := 0 } }

/-- R125: the Journal Writer at CLEAR. -/
def Writer.cleared (w : Writer) : Writer :=
  { w with written := 0, released := 0, watermark := 0, enabled := false }

/-- R148: the memory port at CLEAR. -/
def Port.cleared (p : Port) : Port := { p.abandon with timeout := Config.resetTimeout, busFaults := 0 }

/-- R169: CLEAR is taken. -/
def takeClear (s : State) : State :=
  { s with
    control := s.control.cleared
    timer := { s.timer.noFrame with geometry := .empty }
    cells := mapCells s.cells fun _ c => c.clear
    store := s.store.freed
    static := s.static.deactivate
    loader := .reset
    queue := .reset
    staging := .reset
    writer := s.writer.cleared
    service := { s.service.halted with hostControl := .zero }
    port := s.port.cleared
    health := .reset }

/-- R158: the states that accept CLEAR. -/
def acceptsClear (e : EngineState) : Bool := e == .armed || e == .halted

/-- CLEAR written (R158, R169). -/
def clearWritten (s : State) : State := judgeCommand codeClear (acceptsClear s.control.engine) takeClear s

/-! ## A write to CMD (R158, R177) -/

/-- R158, test 1: a code that names no command is refused. -/
def codeRefused (code : Byte) (s : State) : State := { s with control := s.control.refuse code .refusedCode }

/-- R158, R177: bits 0 to 7 of a write to CMD are the command. -/
def cmdWritten (w : Word) (s : State) : State :=
  match (w.setWidth 8).toNat with
  | 1 => loadWritten s
  | 2 => startWritten s
  | 3 => stopWritten s
  | 4 => resumeWritten s
  | 5 => haltWritten s
  | 6 => clearWritten s
  | _ => codeRefused (w.setWidth 8) s

/-! ## The other words (R172, R173) -/

/-- R172: a write to XBASE_HI (`high`) or XBASE_LO is taken in IDLE alone, and its six lowest bits are dropped. -/
def Control.writeXbase (c : Control) (high : Bool) (w : Word) : Control :=
  if c.engine = .idle then
    { c with
      xbase :=
        if high then w ++ c.xbase.extractLsb' 0 32
        else c.xbase.extractLsb' 32 32 ++ (w &&& 0xFFFFFFC0#32) }
  else c

/-- R173: a write to CAUSE clears the flags whose bit is 1. -/
def Control.clearCause (c : Control) (w : Word) : Control := { c with cause := c.cause &&& ~~~(w.setWidth 6) }

/-- R173: a write to MASK. -/
def Control.writeMask (c : Control) (w : Word) : Control := { c with mask := w.setWidth 6 }

/-- R172: a write at the register port: of less than a whole word, at an offset that names no word, or to a word that is
only read, it has no effect. -/
def registerWritten (offset size : Nat) (w : Word) (s : State) : State :=
  if size ≠ 4 then s
  else match offset with
    | 4 => { s with control := s.control.writeXbase false w }
    | 8 => { s with control := s.control.writeXbase true w }
    | 12 => cmdWritten w s
    | 24 => { s with control := s.control.clearCause w }
    | 28 => { s with control := s.control.writeMask w }
    | _ => s

/-! ## RESET_N (R174) -/

/-- R174: every item of the part takes its RESET_N value. The levels outside, the tick counter, the count of free choices and
the commands that wait are not the part's (log 18). -/
def resetPart (s : State) : State :=
  { State.reset with outside := s.outside, now := s.now, choices := s.choices, pending := s.pending }

/-! ## The meanings -/

/-- RESET_N. -/
def execResetN (s : State) : Host.Outcome State Fault Refusal := .next (resetPart s)

/-- LOAD. -/
def execLoad (s : State) : Host.Outcome State Fault Refusal := .next (loadWritten s)

/-- START. -/
def execStart (s : State) : Host.Outcome State Fault Refusal := .next (startWritten s)

/-- STOP. -/
def execStop (s : State) : Host.Outcome State Fault Refusal := .next (stopWritten s)

/-- RESUME. -/
def execResume (s : State) : Host.Outcome State Fault Refusal := .next (resumeWritten s)

/-- HALT. -/
def execHalt (s : State) : Host.Outcome State Fault Refusal := .next (haltWritten s)

/-- CLEAR. -/
def execClear (s : State) : Host.Outcome State Fault Refusal := .next (clearWritten s)

/-- UNKNOWN_COMMAND_CODE. A word that does name a command is that command (log 19). -/
def execUnknownCommandCode (w : Word) (s : State) : Host.Outcome State Fault Refusal := .next (cmdWritten w s)

/-- XBASE_WRITE. -/
def execXbaseWrite (high : Bool) (w : Word) (s : State) : Host.Outcome State Fault Refusal :=
  .next { s with control := s.control.writeXbase high w }

/-- CAUSE_WRITE. -/
def execCauseWrite (w : Word) (s : State) : Host.Outcome State Fault Refusal :=
  .next { s with control := s.control.clearCause w }

/-- MASK_WRITE. -/
def execMaskWrite (w : Word) (s : State) : Host.Outcome State Fault Refusal :=
  .next { s with control := s.control.writeMask w }

/-- IGNORED_REGISTER_WRITE. A write that the port does not ignore is that write (log 19). -/
def execIgnoredRegisterWrite (offset size : Nat) (w : Word) (s : State) : Host.Outcome State Fault Refusal :=
  .next (registerWritten offset size w s)

end Sys2Proof.Machine
end

