-- ==== Sys2Proof/Machine/Pins.lean ====
section
/-! DEFINITION. What the outside does at the pins: SYNC_IN (R9 to R13) and TL0 to TL15 (R26, R28). -/

namespace Sys2Proof.Machine

/-! ## SYNC_IN -/

/-- R9: two successive samples differ in the direction of the active edge chosen at setup. -/
def activeEdge (u : Setup) (earlier : Option Bool) (later : Bool) : Bool :=
  decide (edgeBetween earlier later = some u.activeEdge)

/-- R9: SYNC_IN is sampled. -/
def sampleSync (level : Bool) (s : State) : State :=
  { s with
    outside := { s.outside with sync := level }
    timer := { s.timer with syncSample := some level } }

/-- R13, R165: the first active edge in SYNC_WAIT starts the first frame. -/
def firstEdge (s : State) : State :=
  settlePort
    (frameStart (some (.state .running .command)) false { s with control := { s.control with engine := .running } })

/-- R12: an early edge. -/
def earlyEdge (s : State) : State :=
  { s with
    timer := { s.timer with earlySeen := true }
    health := if s.timer.earlySeen then s.health else s.health.reportSync }

/-- R10, R12: what an active edge at frame time `t` of a running frame does. At frame time 0 it belongs to the frame that
ended at this tick (log 20). -/
def edgeInFrame (t : Nat) (s : State) : State :=
  if t = 0 then s
  else if t + s.control.setup.tolerance < s.timer.geometry.frameLength then earlyEdge s
  else if t ≤ s.timer.geometry.frameLength + s.control.setup.tolerance then settlePort (frameEnd false s)
  else s

/-- R9: an active edge has an effect in external mode, in SYNC_WAIT or inside a running frame. -/
def judgeEdge (s : State) : State :=
  if s.control.setup.mode = .external then
    if s.control.engine = .syncWait then firstEdge s
    else match s.timer.frameTime with
      | some t => edgeInFrame t s
      | none => s
  else s

/-- SYNC_IN_EDGE. -/
def execSyncInEdge (level : Bool) (s : State) : Host.Outcome State Fault Refusal :=
  .next (if activeEdge s.control.setup s.timer.syncSample level then judgeEdge (sampleSync level s)
    else sampleSync level s)

/-! ## The timing lines -/

/-- R26, R28, R29: one line cell takes its sample of the tick: a capture offers its record, and a spot window that closes at
its last capture reports. -/
def sampleLine (l : Line) (s : State) : State :=
  let c := s.cells.get l
  let level := (c.pin s.control.engine).level (s.outside.line l)
  let capture := c.captures s.now level
  offer (capture.map fun p => RecordBody.capture l p.1 p.2.source).toList (stamp s)
    { s with
      cells := updateCell s.cells l fun c => c.afterSample s.now level
      queue := s.queue.report
        (capture.bind fun p => if p.2.captured.left = 0 then p.2.captured.report else none) }

/-- R115: the lines take their samples in ascending line number. -/
def sampleLines (ls : List Line) (s : State) : State := ls.foldl (fun t l => sampleLine l t) s

/-- LINE_EDGE. -/
def execLineEdge (levels : BitVec 16) (s : State) : Host.Outcome State Fault Refusal :=
  .next (settlePort (sampleLines allLines { s with outside := { s.outside with lines := levels } }))

end Sys2Proof.Machine
end

