-- ==== Sys2Proof/Machine/Ticks.lean ====
section
/-! DEFINITION. What the part does at ticks of its own: the boundary events of a frame, the starts and ends of actions, the
ends of windows (01, 02, 03, 06, 08). Each has no effect at a tick at which it is not due (log 2). -/

namespace Sys2Proof.Machine

/-- The effect of a timed event at a tick at which it is due. -/
def whenDue (due : Bool) (effect : State → State) (s : State) : State := if due then effect s else s

/-- The frame time is `t`. -/
def atFrameTime (s : State) (t : Nat) : Bool := decide (s.timer.frameTime = some t)

/-! ## Frame ends (R7, R11), SYNC_OUT and acceptance (R10, R16) -/

/-- R7: internal mode, and frame time reaches L. -/
def internalEndDue (s : State) : Bool :=
  s.control.setup.mode == .internal && atFrameTime s s.timer.geometry.frameLength

/-- R11: external mode, and frame time reaches L + T with no edge accepted. -/
def missingDue (s : State) : Bool :=
  s.control.setup.mode == .external
    && atFrameTime s (s.timer.geometry.frameLength + s.control.setup.tolerance)

/-- R16: the 8 ticks of the pulse are over. -/
def pulseEndDue (s : State) : Bool :=
  s.timer.syncOut && s.timer.frameTime.any fun t => Config.syncOutTicks ≤ t

/-- R16. -/
def endPulse (s : State) : State := { s with timer := { s.timer with syncOut := false } }

/-- R10: frame time reaches L − T. -/
def acceptanceDue (s : State) : Bool :=
  s.timer.acceptance == .earlyZone
    && s.timer.frameTime.any fun t => s.timer.geometry.frameLength ≤ t + s.control.setup.tolerance

/-- R10. -/
def openAcceptance (s : State) : State := { s with timer := { s.timer with acceptance := .opened } }

/-- INTERNAL_FRAME_END. -/
def execInternalFrameEnd (s : State) : Host.Outcome State Fault Refusal :=
  .next (whenDue (internalEndDue s) (fun s => settlePort (frameEnd false s)) s)

/-- SYNC_MISSING. -/
def execSyncMissing (s : State) : Host.Outcome State Fault Refusal :=
  .next (whenDue (missingDue s) (fun s => settlePort (frameEnd true s)) s)

/-- SYNC_OUT_PULSE_END. -/
def execSyncOutPulseEnd (s : State) : Host.Outcome State Fault Refusal := .next (whenDue (pulseEndDue s) endPulse s)

/-- SYNC_ACCEPTANCE_OPEN. -/
def execSyncAcceptanceOpen (s : State) : Host.Outcome State Fault Refusal :=
  .next (whenDue (acceptanceDue s) openAcceptance s)

/-! ## Static slots and their actions (R5, R53, R54) -/

/-- R5: the slot whose first tick this is. -/
def slotStarting (s : State) : Option Nat :=
  let g := s.timer.geometry
  s.timer.frameTime.bind fun t =>
    if t % g.slotLength = 0 ∧ t / g.slotLength < g.slots then some (t / g.slotLength) else none

/-- R5: the phase position moves to a slot. -/
def enterSlot (k : Nat) (s : State) : State := { s with timer := { s.timer with phase := .static k } }

/-- SLOT_START. -/
def execSlotStart (s : State) : Host.Outcome State Fault Refusal :=
  .next ((slotStarting s).elim s fun k => enterSlot k s)

/-- R53: the action at the next-action index, at its start tick. -/
def actionStarting (s : State) : Option ActionRecord :=
  (nextAction s).filter fun a => atFrameTime s (a.startTime s.timer.geometry)

/-- R54: an action is handed to its cell when its filter passes, and in HELD when it is no output action. -/
def handed (s : State) (a : ActionRecord) : Bool :=
  filterPasses a s.static.frame && !(s.control.engine == .held && kindIsOutput a.kind)

/-- R21, R27: a cell takes an action at its start tick. -/
def Cell.take (c : Cell) (now : Nat) (op : Operation) (source : WindowSource) : Cell :=
  (c.applyOutput now op).openWindow now op source

/-- R53, R54: the Static Action Unit considers an action and advances its index. -/
def considerAction (a : ActionRecord) (s : State) : State :=
  { s with
    static := { s.static with next := s.static.next + 1 }
    cells :=
      if handed s a then
        updateCell s.cells (lineOf a.line) fun c =>
          a.op.elim c fun op => c.take s.now op (.static a.slot s.static.next)
      else s.cells }

/-- STATIC_ACTION_START. -/
def execStaticActionStart (s : State) : Host.Outcome State Fault Refusal :=
  .next ((actionStarting s).elim s fun a => considerAction a s)

/-! ## Running actions and windows (R21, R25, R29) -/

/-- BURST_PERIOD_CHANGE (R25). -/
def execBurstPeriodChange (l : Line) (s : State) : Host.Outcome State Fault Refusal :=
  .next { s with cells := updateCell s.cells l fun c => c.burstChange s.now }

/-- OUTPUT_ACTION_END (R21). -/
def execOutputActionEnd (l : Line) (s : State) : Host.Outcome State Fault Refusal :=
  .next { s with cells := updateCell s.cells l fun c => c.endDue s.now }

/-- R29: the window of a line whose close tick has come. -/
def windowDue (s : State) (l : Line) : Option Window :=
  (s.cells.get l).window.filter fun w => w.closeTick ≤ s.now

/-- R29: a window closes at its close tick; a spot window reports. -/
def closeDueWindow (l : Line) (w : Window) (s : State) : State :=
  { s with
    cells := updateCell s.cells l Cell.closeWindow
    queue := s.queue.report w.report }

/-- WINDOW_CLOSE_TICK. -/
def execWindowCloseTick (l : Line) (s : State) : Host.Outcome State Fault Refusal :=
  .next ((windowDue s l).elim s fun w => closeDueWindow l w s)

/-! ## The dynamic phase (R100 to R103) -/

/-- Whether the phase position is a slot. -/
def Phase.isStatic : Phase → Bool
  | .static _ => true
  | .none => false
  | .dynamic _ => false
  | .service => false

/-- Whether the phase position is a minislot. -/
def Phase.isDynamic : Phase → Bool
  | .dynamic _ => true
  | .none => false
  | .static _ => false
  | .service => false

/-- R5: the dynamic phase starts, when it has minislots. -/
def dynamicDue (s : State) : Bool :=
  s.timer.phase.isStatic && decide (0 < s.timer.geometry.minislots) && atFrameTime s s.timer.geometry.staticLength

/-- R99, R100, R101: expiry and placement. -/
def startDynamic (s : State) : State :=
  { s with
    timer := { s.timer with phase := .dynamic 0 }
    queue := s.queue.dynamicPhase s.timer.geometry s.timer.current (s.control.engine == .held) }

/-- DYNAMIC_PHASE_START. -/
def execDynamicPhaseStart (s : State) : Host.Outcome State Fault Refusal :=
  .next (whenDue (dynamicDue s) startDynamic s)

/-- R5: the minislot whose first tick this is. -/
def minislotStarting (s : State) : Option Nat :=
  let g := s.timer.geometry
  s.timer.frameTime.bind fun t =>
    if s.timer.phase.isDynamic = true ∧ g.staticLength ≤ t ∧ (t - g.staticLength) % g.minislotLength = 0
        ∧ (t - g.staticLength) / g.minislotLength < g.minislots then
      some ((t - g.staticLength) / g.minislotLength)
    else none

/-- R29, R103: the spot action under way ends: its window closes and reports, and the entry is FINISHED. -/
def finishSpot (a : SpotAction) (s : State) : State :=
  let due := spotWindowDue s.cells a.board s.now
  { s with
    cells := mapCells s.cells fun l c => if due l then c.closeWindow else c
    queue := (s.queue.reports (windowReports s.cells due)).finishAction a }

/-- R103: the spot action whose end tick has come. -/
def spotDue (s : State) : Option SpotAction := s.queue.action.filter fun a => a.stop ≤ s.now

/-- R103. -/
def finishSpotDue (s : State) : State := (spotDue s).elim s fun a => finishSpot a s

/-- SPOT_ACTION_END. -/
def execSpotActionEnd (s : State) : Host.Outcome State Fault Refusal := .next (finishSpotDue s)

/-- R30, R102: an entry becomes EXECUTING and its action starts: a MARK at staging, any other at the cell of its line. -/
def startSpot (e : Entry) (s : State) : State :=
  let t := { s with queue := s.queue.execute e s.timer.current (s.timer.frameTime.getD 0) s.now }
  match e.request.op with
  | some .mark => settlePort (offer [.mark e.tag e.board] (stamp s) t)
  | some op =>
    { t with
      cells := updateCell s.cells (lineOf e.request.line) fun c => c.take s.now op (.spot e.board e.tag) }
  | none => t

/-- R102: the entry placed at a minislot starts. -/
def startPlaced (m : Nat) (s : State) : State := (s.queue.startingAt m).elim s fun e => startSpot e s

/-- R5: the phase position moves to a minislot. -/
def enterMinislot (m : Nat) (s : State) : State := { s with timer := { s.timer with phase := .dynamic m } }

/-- R102, R103: a minislot start: an action that ends at this tick is finished, then the entry placed here starts. -/
def minislotStarts (m : Nat) (s : State) : State :=
  startPlaced m (finishSpotDue (enterMinislot m s))

/-- MINISLOT_START. -/
def execMinislotStart (s : State) : Host.Outcome State Fault Refusal :=
  .next ((minislotStarting s).elim s fun m => minislotStarts m s)

/-! ## The service window and the closing write (R126, R136) -/

/-- R5: the service window starts. -/
def serviceDue (s : State) : Bool :=
  (s.timer.phase.isStatic || s.timer.phase.isDynamic)
    && atFrameTime s (s.timer.geometry.staticLength + s.timer.geometry.dynamicLength)

/-- R126: a pass starts, or is owed while a tail or a closing write goes on. -/
def serviceWindow (s : State) : State :=
  let t := { s with timer := { s.timer with phase := .service } }
  match s.service.activity with
  | .none => grantFree (startPass t)
  | .tail => { t with service := { t.service with owed := true } }
  | .statusWrite => { t with service := { t.service with owed := true } }
  | .pass => t
  | .closingWait => t

/-- SERVICE_WINDOW_START. -/
def execServiceWindowStart (s : State) : Host.Outcome State Fault Refusal :=
  .next (whenDue (serviceDue s) serviceWindow s)

/-- CLOSING_STATUS_WRITE (R136). The event follows the one that made it due: at the tick a transfer ends, the closing write's
request is always taken after that end, never before it (the model's choice, log 27; R141 leaves it open). -/
def execClosingStatusWrite (s : State) : Host.Outcome State Fault Refusal :=
  .next (whenDue (closingDue s) (fun s => grantFree (beginClosing s)) s)

end Sys2Proof.Machine
end

