-- ==== Sys2Proof/Machine/Transfers.lean ====
section
/-! DEFINITION. The ends of transfers (R142 to R144) and what each requester does at them. -/

namespace Sys2Proof.Machine

/-! ## LOAD's reads (R161, R163) -/

/-- R125, R148, R161: the setup being loaded, and the two values that passed checks set in other blocks. -/
def takeSetup (f : SetupFields) (s : State) : State :=
  { s with
    control := { s.control with loading := some f.values }
    writer :=
      if setupBoardOk f && setupJournalOk s.control.xbase f then
        { s.writer with base := f.journalBase, size := f.journalSize }
      else s.writer
    port :=
      if setupBoardOk f && setupJournalOk s.control.xbase f && setupTimeoutOk f then
        { s.port with timeout := f.timeout.toNat }
      else s.port }

/-- R161, R163: the setup read returned: the first check failed ends LOAD; else the host-control read is requested. -/
def setupReturns (bs : List Byte) (s : State) : State :=
  let f := readSetup bs
  match setupFailure s.control.xbase f with
  | some reason => loadFails reason .none (takeSetup f s)
  | none =>
    let t := takeSetup f s
    requestService .hostControlRead 64 32 { t with control := { t.control with stage := .hostRead } }

/-- R125, R138, R163: the host-control values of LOAD. -/
def takeLoadHostControl (h : HostControl) (s : State) : State :=
  { s with
    service := { s.service with hostControl := h }
    writer := s.writer.start h }

/-- R163: LOAD's host-control read returned: NO_PLAN, or the initial load. -/
def loadHostControlReturns (bs : List Byte) (s : State) : State :=
  let h := readHostControl bs
  let t := takeLoadHostControl h s
  if h.planGeneration = 0 then loadFails .noPlan .none t
  else startInitialLoad h.planAddress h.planGeneration { t with control := { t.control with stage := .plan } }

/-! ## The pass's reads and writes (R88, R127, R130) -/

/-- R127: step A's read returned. -/
def stepAReturns (bs : List Byte) (s : State) : State :=
  stepAEnds (handOvers { s with service := { s.service with hostControl := readHostControl bs } })

/-- R130: the first write of step D completed. -/
def statusFirstDone (s : State) : State := requestService .statusSecond 96 64 s

/-- R131: the second write of step D completed. -/
def statusSecondDone (s : State) : State := statusEnds (postStatus s)

/-- R88, R89, R96: a state word write completed. -/
def stateWordDone (board : Nat) (w : StateWord) (s : State) : State :=
  unitEnds (removeAnswered board w (noteFinal w s))

/-- R112, R117: a journal write completed: W increases, the head leaves, and the records of this tick that waited for its
place are judged. -/
def journalDone (s : State) : State :=
  judgeOffers { s with writer := s.writer.wrote, staging := s.staging.dropHead }

/-! ## Failures (R145) -/

/-- R145: a failure is counted, raises BUS and is reported. -/
def countFailure (s : State) : State :=
  { s with
    port := { s.port with busFaults := s.port.busFaults + 1 }
    control := s.control.raise .bus
    health := s.health.reportBus s.frameRunning }

/-- R112, R118: a journal write failed: the head record is lost and W stays, and the records of this tick that waited for its
place are judged. -/
def journalFailed (s : State) : State := judgeOffers { s with staging := s.staging.dropHead.lose }

/-- R145: what the failure of a transfer means to its requester. -/
def failureHanded (detail : PlanDetail) (k : TransferKind) (s : State) : State :=
  match k with
  | .setupRead => loadFails .bus .none s
  | .hostControlRead => loadFails .bus .none s
  | .stepARead => stepAEnds (handOvers s)
  | .planRead => planReadFails detail s
  | .boardRead _ => unitEnds s
  | .resultWrite _ _ _ => unitEnds s
  | .stateWrite _ _ => unitEnds s
  | .statusFirst => statusEnds s
  | .statusSecond => statusEnds s
  | .journalWrite => journalFailed s

/-- R143, R144: the outstanding transfer fails. A discarded one is not counted and hands nothing to anyone (R146). -/
def transferFails (detail : PlanDetail) (s : State) : State :=
  respond (fun t => some fun u => failureHanded detail t.kind (countFailure u)) s

/-! ## The meanings -/

/-- SETUP_READ_DONE. -/
def execSetupReadDone (data : Vector Byte 64) (s : State) : Host.Outcome State Fault Refusal :=
  .next (respond (fun t => if t.kind = .setupRead then some (setupReturns data.toList) else none) s)

/-- LOAD_HOST_CONTROL_READ_DONE. -/
def execLoadHostControlReadDone (data : Vector Byte 32) (s : State) : Host.Outcome State Fault Refusal :=
  .next (respond (fun t => if t.kind = .hostControlRead then some (loadHostControlReturns data.toList) else none) s)

/-- STEP_A_READ_DONE. -/
def execStepAReadDone (data : Vector Byte 32) (s : State) : Host.Outcome State Fault Refusal :=
  .next (respond (fun t => if t.kind = .stepARead then some (stepAReturns data.toList) else none) s)

/-- PLAN_READ_DONE: a read of n bytes returns the first n of the operand (log 16). -/
def execPlanReadDone (data : Vector Byte 64) (s : State) : Host.Outcome State Fault Refusal :=
  .next (respond
    (fun t => if t.kind = .planRead then some (planReadReturns (data.toList.take t.length)) else none) s)

/-- The board index of a board read. -/
def TransferKind.boardReadOf : TransferKind → Option Nat
  | .boardRead i => some i
  | .setupRead => none
  | .hostControlRead => none
  | .stepARead => none
  | .planRead => none
  | .resultWrite _ _ _ => none
  | .stateWrite _ _ => none
  | .statusFirst => none
  | .statusSecond => none
  | .journalWrite => none

/-- BOARD_ENTRY_READ_DONE. -/
def execBoardEntryReadDone (data : Vector Byte 48) (s : State) : Host.Outcome State Fault Refusal :=
  .next (respond (fun t => t.kind.boardReadOf.map fun i => handleEntry i data.toList) s)

/-- What follows a completed result write: the state write of the entry (R88). -/
def TransferKind.afterResult : TransferKind → Option (State → State)
  | .resultWrite i _ w => some (requestState i w)
  | .setupRead => none
  | .hostControlRead => none
  | .stepARead => none
  | .planRead => none
  | .boardRead _ => none
  | .stateWrite _ _ => none
  | .statusFirst => none
  | .statusSecond => none
  | .journalWrite => none

/-- RESULT_WRITE_DONE. -/
def execResultWriteDone (s : State) : Host.Outcome State Fault Refusal := .next (respond (fun t => t.kind.afterResult) s)

/-- What follows a completed state word write. -/
def TransferKind.afterStateWord : TransferKind → Option (State → State)
  | .stateWrite i w => some (stateWordDone i w)
  | .setupRead => none
  | .hostControlRead => none
  | .stepARead => none
  | .planRead => none
  | .boardRead _ => none
  | .resultWrite _ _ _ => none
  | .statusFirst => none
  | .statusSecond => none
  | .journalWrite => none

/-- STATE_WORD_WRITE_DONE. -/
def execStateWordWriteDone (s : State) : Host.Outcome State Fault Refusal :=
  .next (respond (fun t => t.kind.afterStateWord) s)

/-- STATUS_FIRST_WRITE_DONE. -/
def execStatusFirstWriteDone (s : State) : Host.Outcome State Fault Refusal :=
  .next (respond (fun t => if t.kind = .statusFirst then some statusFirstDone else none) s)

/-- STATUS_SECOND_WRITE_DONE. -/
def execStatusSecondWriteDone (s : State) : Host.Outcome State Fault Refusal :=
  .next (respond (fun t => if t.kind = .statusSecond then some statusSecondDone else none) s)

/-- JOURNAL_WRITE_DONE. -/
def execJournalWriteDone (s : State) : Host.Outcome State Fault Refusal :=
  .next (respond (fun t => if t.kind = .journalWrite then some journalDone else none) s)

/-- R143: the timer of the outstanding transfer has run out. -/
def timeoutDue (s : State) : Bool := s.port.outstanding.any fun t => t.expiryTick ≤ s.now

/-- TIMEOUT. -/
def execTimeout (s : State) : Host.Outcome State Fault Refusal :=
  .next (whenDue (timeoutDue s) (transferFails .timeout) s)

/-- BUS_ERROR. -/
def execBusError (s : State) : Host.Outcome State Fault Refusal := .next (transferFails .busError s)

/-- LATE_RESPONSE (R143, R144): a response to a transfer that has already failed is ignored. -/
def execLateResponse (s : State) : Host.Outcome State Fault Refusal := .next s

/-- DISCARDED_TRANSFER_END (R146): a discarded transfer ends, its result is dropped, and the port grants. -/
def execDiscardedTransferEnd (s : State) : Host.Outcome State Fault Refusal :=
  .next (respond (fun t => if t.discard then some id else none) s)

end Sys2Proof.Machine
end

