-- ==== Sys2Proof/Machine/Clock.lean ====
section
/-! DEFINITION. The tick (log 1): on an empty queue the part meets the next of its own timed events that is due at this tick,
and when none is due one tick passes. -/

namespace Sys2Proof.Machine

/-- R21: an output action of a line ends at this tick. -/
def outputEndDue (s : State) (l : Line) : Bool := (s.cells.get l).running.any fun r => r.stop ≤ s.now

/-- R25: a burst of a line changes its level at this tick. -/
def burstDue (s : State) (l : Line) : Bool :=
  ((s.cells.get l).burstChange s.now).logical != (s.cells.get l).logical

/-- The event when it is due. -/
def eventIf (due : Bool) (i : Instr) : Option Instr := if due then some i else none

/-- The first line for which an event is due. -/
def lineEvent (due : Line → Bool) (i : Line → Instr) : Option Instr := (allLines.find? due).map i

/-- R102: a minislot start has something to do: the position moves, or an entry starts. -/
def minislotDue (s : State) : Bool :=
  (minislotStarting s).any fun m => decide (s.timer.phase ≠ .dynamic m) || (s.queue.startingAt m).isSome

/-- R5: a slot start moves the position. -/
def slotDue (s : State) : Bool := (slotStarting s).any fun k => decide (s.timer.phase ≠ .static k)

/-- The next event that is due: ends before starts, the frame end before what a frame holds (R22, R103; log 4). -/
def dueEvent (s : State) : Option Instr :=
  (lineEvent (outputEndDue s) .outputActionEnd)
    <|> (lineEvent (fun l => (windowDue s l).isSome) .windowCloseTick)
    <|> (eventIf (spotDue s).isSome .spotActionEnd)
    <|> (eventIf (timeoutDue s) .timeout)
    <|> (eventIf (internalEndDue s) .internalFrameEnd)
    <|> (eventIf (missingDue s) .syncMissing)
    <|> (eventIf (acceptanceDue s) .syncAcceptanceOpen)
    <|> (eventIf (pulseEndDue s) .syncOutPulseEnd)
    <|> (eventIf (slotDue s) .slotStart)
    <|> (eventIf (dynamicDue s) .dynamicPhaseStart)
    <|> (eventIf (minislotDue s) .minislotStart)
    <|> (eventIf (actionStarting s).isSome .staticActionStart)
    <|> (lineEvent (burstDue s) .burstPeriodChange)
    <|> (eventIf (serviceDue s) .serviceWindowStart)
    <|> (eventIf (closingDue s) .closingStatusWrite)

/-- R1, R9, R26: a tick passes: the records that still wait for a place are judged (R112), SYNC_IN and every pin are sampled,
frame time counts, and what the present tick held for the next is settled (R67, R149). -/
def advanceTick (u : State) : State :=
  let s := judgeOffers u
  { s with
    timer :=
      { s.timer with
        frameTime := s.timer.frameTime.map (· + 1)
        syncSample := some s.outside.sync }
    cells := mapCells s.cells fun l c => c.sample s.control.engine (s.outside.line l)
    store := { s.store with pendingNow := false }
    staging := s.staging.endTick
    health := s.health.endTick s.frameRunning
    now := s.now + 1 }

/-- An empty queue: the event that is due joins it, or a tick passes. -/
def idle (s : State) : State :=
  match dueEvent s with
  | some i => { s with pending := s.pending ++ [i] }
  | none => advanceTick s

end Sys2Proof.Machine
end

