-- ==== Sys2Proof/Machine/Dispatch.lean ====
section
/-! DEFINITION. One arm for each command: its meaning. -/

namespace Sys2Proof.Machine

/-- The effect of a command on everything but the queue. -/
def exec (i : Instr) (s : State) : Host.Outcome State Fault Refusal :=
  match i with
  | .resetN => Sys2Proof.Machine.execResetN s
  | .load => Sys2Proof.Machine.execLoad s
  | .start => Sys2Proof.Machine.execStart s
  | .stop => Sys2Proof.Machine.execStop s
  | .resume => Sys2Proof.Machine.execResume s
  | .halt => Sys2Proof.Machine.execHalt s
  | .clear => Sys2Proof.Machine.execClear s
  | .unknownCommandCode word => Sys2Proof.Machine.execUnknownCommandCode word s
  | .xbaseWrite high word => Sys2Proof.Machine.execXbaseWrite high word s
  | .causeWrite word => Sys2Proof.Machine.execCauseWrite word s
  | .maskWrite word => Sys2Proof.Machine.execMaskWrite word s
  | .ignoredRegisterWrite offset size word => Sys2Proof.Machine.execIgnoredRegisterWrite offset size word s
  | .syncInEdge level => Sys2Proof.Machine.execSyncInEdge level s
  | .lineEdge levels => Sys2Proof.Machine.execLineEdge levels s
  | .internalFrameEnd => Sys2Proof.Machine.execInternalFrameEnd s
  | .syncMissing => Sys2Proof.Machine.execSyncMissing s
  | .syncOutPulseEnd => Sys2Proof.Machine.execSyncOutPulseEnd s
  | .slotStart => Sys2Proof.Machine.execSlotStart s
  | .staticActionStart => Sys2Proof.Machine.execStaticActionStart s
  | .burstPeriodChange line => Sys2Proof.Machine.execBurstPeriodChange line s
  | .outputActionEnd line => Sys2Proof.Machine.execOutputActionEnd line s
  | .windowCloseTick line => Sys2Proof.Machine.execWindowCloseTick line s
  | .dynamicPhaseStart => Sys2Proof.Machine.execDynamicPhaseStart s
  | .minislotStart => Sys2Proof.Machine.execMinislotStart s
  | .spotActionEnd => Sys2Proof.Machine.execSpotActionEnd s
  | .serviceWindowStart => Sys2Proof.Machine.execServiceWindowStart s
  | .setupReadDone data => Sys2Proof.Machine.execSetupReadDone data s
  | .loadHostControlReadDone data => Sys2Proof.Machine.execLoadHostControlReadDone data s
  | .stepAReadDone data => Sys2Proof.Machine.execStepAReadDone data s
  | .planReadDone data => Sys2Proof.Machine.execPlanReadDone data s
  | .boardEntryReadDone data => Sys2Proof.Machine.execBoardEntryReadDone data s
  | .resultWriteDone => Sys2Proof.Machine.execResultWriteDone s
  | .stateWordWriteDone => Sys2Proof.Machine.execStateWordWriteDone s
  | .statusFirstWriteDone => Sys2Proof.Machine.execStatusFirstWriteDone s
  | .statusSecondWriteDone => Sys2Proof.Machine.execStatusSecondWriteDone s
  | .closingStatusWrite => Sys2Proof.Machine.execClosingStatusWrite s
  | .journalWriteDone => Sys2Proof.Machine.execJournalWriteDone s
  | .timeout => Sys2Proof.Machine.execTimeout s
  | .busError => Sys2Proof.Machine.execBusError s
  | .lateResponse => Sys2Proof.Machine.execLateResponse s
  | .discardedTransferEnd => Sys2Proof.Machine.execDiscardedTransferEnd s
  | .syncAcceptanceOpen => Sys2Proof.Machine.execSyncAcceptanceOpen s

end Sys2Proof.Machine
end

