-- ==== Sys2Proof/Machine/Step.lean ====
section
/-! DEFINITION. One step: the command at the front of the queue, or the part's own time when nothing waits. -/

namespace Sys2Proof.Machine

/-- Take the command at the front of the queue and run it with the queue's rest. On an empty queue the part meets its next due
event or counts one tick (log 1). -/
def step (s : State) : Host.Outcome State Fault Refusal :=
  match s.pending with
  | i :: rest => exec i { s with pending := rest }
  | [] => .next (idle s)

/-- The state with the command that a word spells at the front of its queue. -/
def State.withFetchWord (s : State) (nbits w : Nat) : State :=
  match decodeTableWord nbits w with
  | some i => { s with pending := i :: s.pending }
  | none => s

end Sys2Proof.Machine
end

