-- ==== Sys2Proof/Safety.lean ====
section
/-! DEFINITION. What every step keeps, and the words the statements are written in. -/

namespace Sys2Proof.Machine

/-! ## Invariants -/

/-- What the blocks hold stays within bounds: R2 (the current frame number is the next less one), R151 (the score), R112 (32
staged records), R93 (16 queue entries, each board index held once), R172 (XBASE is a multiple of 64). -/
structure State.Bounded (s : State) : Prop where
  numbers : s.timer.nextFrame = s.timer.current + 1
  score : s.health.score ≤ 255
  staged : s.staging.records.length ≤ 32
  queued : s.queue.entries.length ≤ 16
  boards : (s.queue.entries.map Entry.board).Nodup
  xbase : s.control.xbase.extractLsb' 0 6 = 0

/-- A read that LOAD alone makes: of the setup section or of host control. -/
def TransferKind.isLoadRead (k : TransferKind) : Bool := k == .setupRead || k == .hostControlRead

/-- The outstanding transfer, when its result is still wanted. -/
def Port.live (p : Port) : Option Transfer := p.outstanding.filter fun t => !t.discard

/-- One of LOAD's own reads is at the port and its result is wanted. -/
def Port.loadReadAtPort (p : Port) : Bool :=
  (p.live.any fun t => t.kind.isLoadRead) || (p.service.any fun w => w.kind.isLoadRead)
    || (p.writer.any fun w => w.kind.isLoadRead) || (p.loader.any fun w => w.kind.isLoadRead)

/-- The engine state and the blocks that must agree with it. `frames`: R1, R157: a frame runs exactly in RUNNING and HELD.
`load`, `stop`, `resume`: R158, R159: what may be pending in which state. `score`: R172. `planReason`: R177: a plan reason
stands in the readback only with PLAN_REJECTED, and is the reason of a check. The others say whose transfers LOADING and IDLE
allow (R146, R160, R163, R164). -/
structure State.Consistent (s : State) : Prop where
  frames : s.frameRunning = true ↔ s.control.engine = .running ∨ s.control.engine = .held
  load : s.control.pending = .load ↔ s.control.engine = .loading
  stop : s.control.pending = .stop → s.control.engine = .running ∨ s.control.engine = .held
  resume : s.control.pending = .resume → s.control.engine = .held
  loading : s.control.engine = .loading →
    s.writer.enabled = false ∧ (s.service.activity = .none ∨ s.service.activity = .statusWrite)
      ∧ s.port.writer = none ∧ s.port.loader = none ∧ (s.port.live.isSome = true → s.port.service = none)
  statusWrite : s.control.engine = .loading → s.service.activity = .statusWrite →
    s.loader.readOut = .none ∧ s.port.loadReadAtPort = false
  loadReads : s.port.loadReadAtPort = true → s.control.engine = .loading
  idle : s.control.engine = .idle →
    s.writer.enabled = false ∧ s.service.activity = .none ∧ s.port.live = none ∧ s.port.service = none
      ∧ s.port.writer = none ∧ s.port.loader = none
  halted : s.control.engine = .halted → s.service.activity = .none
  score : s.control.engine = .idle ∨ s.control.engine = .loading → s.health.score = 0
  planReason : s.control.readback.planReason ≠ .none →
    s.control.readback.reason = .planRejected ∧ s.control.readback.planReason.code < 16

/-- How many of the two banks satisfy `p`. -/
def Store.countBanks (s : Store) (p : BankState → Bool) : Nat :=
  (if p s.bank0.state then 1 else 0) + (if p s.bank1.state then 1 else 0)

/-- A bank that is being filled, or filled and waiting. -/
def BankState.incoming (b : BankState) : Bool := b == .filling || b == .pending

/-- R50, R51: exactly one bank is CURRENT in ARMED, SYNC_WAIT, RUNNING and HELD, and at most one is FILLING or PENDING at any
time. The other clauses tie the FILLING bank to the Plan Loader, and say where LOADING and IDLE stand (R56, R71). -/
structure State.BanksSound (s : State) : Prop where
  one : s.control.engine = .armed ∨ s.control.engine = .syncWait ∨ s.control.engine = .running ∨ s.control.engine = .held →
    s.store.countBanks (· == .current) = 1
  atMostOne : s.store.countBanks (· == .current) ≤ 1
  incoming : s.store.countBanks BankState.incoming ≤ 1
  filling : s.store.countBanks (· == .filling) = if s.loader.filling then 1 else 0
  loads : s.loader.filling = true →
    s.control.engine = .loading ∨ s.control.engine = .running ∨ s.control.engine = .held
  reads : s.loader.readOut = .currentLoad → s.loader.filling = true
  loading : s.control.engine = .loading → s.store.bank1.state = .free ∧ s.store.bank0.state ≠ .pending
  loadReads : s.port.loadReadAtPort = true → s.store.bank0.state = .free
  statusWrite : s.control.engine = .loading → s.service.activity = .statusWrite → s.store.bank0.state = .current
  idle : s.control.engine = .idle → s.store.bank0.state = .free ∧ s.store.bank1.state = .free

/-- R116, R117: while the writer is enabled, W − Rl lies between 0 and J, and its write is at the port only while W − Rl is
below J. The other clauses say that journal writes are the writer's alone and that W equals Rl while LOAD goes on. -/
structure State.JournalSound (s : State) : Prop where
  room : s.writer.enabled = true → s.writer.unreleased ≤ s.writer.size.toNat
  busy : s.port.writerBusy = true → s.writer.enabled = true ∧ s.writer.unreleased < s.writer.size.toNat
  waiting : ∀ q w, s.port.waiting q = some w → (w.kind = .journalWrite ↔ q = .writer)
  live : ∀ t, s.port.live = some t → (t.kind = .journalWrite ↔ t.requester = .writer)
  single : ∀ t, s.port.live = some t → t.requester = .writer → s.port.writer = none
  initial : s.control.engine = .loading → s.loader.filling = true ∨ s.service.activity = .statusWrite →
    s.writer.written = s.writer.released

/-- R94: queue order, with take sequences compared serially. -/
def Entry.Precedes (a b : Entry) : Prop :=
  a.request.priority.toNat < b.request.priority.toNat
    ∨ (a.request.priority = b.request.priority ∧ 0 < (b.take - a.take).toNat ∧ (b.take - a.take).toNat < 2147483648)

/-- R94: the entries stand in queue order. -/
def State.QueueOrdered (s : State) : Prop := s.queue.entries.Pairwise Entry.Precedes

/-- R94: serial comparison orders the take sequences held: fewer than 2^31 requests have been taken since the oldest of them.
-/
def Queue.TakesRecent (q : Queue) : Prop :=
  ∀ e ∈ q.entries, 0 < (q.nextTake - e.take).toNat ∧ (q.nextTake - e.take).toNat < 2147483648

/-- R117: the writer is enabled, staging holds a record and W − Rl is below J. -/
def State.WriterReady (s : State) : Prop :=
  s.writer.enabled = true ∧ s.staging.records ≠ [] ∧ (s.writer.written - s.writer.released).toNat < s.writer.size.toNat

/-- R116, R117: the writer's write is at the port whenever its conditions hold; the request that waits and the write that is
outstanding are of 32 bytes at slot W mod J, and the write carries the head record. `late`: a record waits for the head's place
only while staging is full and the head at the port (R112, log 23). -/
structure State.WriterServed (s : State) : Prop where
  asks : s.WriterReady → s.port.writerBusy = true
  waiting : ∀ w, s.port.writer = some w → s.staging.records ≠ []
    ∧ w = { kind := .journalWrite, length := 32,
            address := s.writer.base + BitVec.ofNat 64 (32 * (s.writer.written.toNat % s.writer.size.toNat)) }
  live : ∀ t, s.port.live = some t → t.requester = .writer → t.length = 32
    ∧ t.address = s.writer.base + BitVec.ofNat 64 (32 * (s.writer.written.toNat % s.writer.size.toNat))
    ∧ ∃ r, s.staging.records.head? = some r ∧ t.data = recordBytes r
  late : s.staging.offered ≠ [] → 32 ≤ s.staging.records.length ∧ s.journalWriteOutstanding = true

/-- R141: no request waits while the port is free. -/
def State.PortServed (s : State) : Prop := s.port.outstanding = none → ∀ q, s.port.waiting q = none

/-! ## Words of the statements -/

/-- A transfer is asked for: it waits at the port for its requester, or it has just been issued for it at this tick. -/
def State.Asks (t : State) (q : Requester) (kind : TransferKind) (address : Addr) (length : Nat) : Prop :=
  t.port.waiting q = some { kind := kind, address := address, length := length } ∨
    ∃ x, t.port.outstanding = some x ∧ x.kind = kind ∧ x.address = address ∧ x.length = length ∧ x.requester = q
      ∧ x.issueTick = t.now ∧ x.expiryTick = t.now + t.port.timeout ∧ x.discard = false

/-- The priority of a requester: the lower number goes first (R141). -/
def requesterRank : Requester → Nat
  | .service => 0
  | .writer => 1
  | .loader => 2

/-- A request has been granted: it is issued at this tick with its timer set, and waits no longer (R141, R143). -/
def State.Grants (t : State) (q : Requester) (w : Waiting) : Prop :=
  t.port.waiting q = none ∧
    ∃ data, t.port.outstanding = some
      { kind := w.kind, address := w.address, length := w.length, data := data, requester := q, issueTick := t.now,
        expiryTick := t.now + t.port.timeout, discard := false }

/-- The ways the outstanding transfer ends (R142 to R144, R146): the response of its kind, an error response, its timer, or,
when it is discarded, its end. -/
def State.EndsTransfer (s : State) (c : Instr) (x : Transfer) : Prop :=
  s.port.outstanding = some x ∧
    ((∃ data, c = .setupReadDone data ∧ x.kind = .setupRead)
      ∨ (∃ data, c = .loadHostControlReadDone data ∧ x.kind = .hostControlRead)
      ∨ (∃ data, c = .stepAReadDone data ∧ x.kind = .stepARead)
      ∨ (∃ data, c = .planReadDone data ∧ x.kind = .planRead)
      ∨ (∃ data board, c = .boardEntryReadDone data ∧ x.kind = .boardRead board)
      ∨ (∃ board result final, c = .resultWriteDone ∧ x.kind = .resultWrite board result final)
      ∨ (∃ board word, c = .stateWordWriteDone ∧ x.kind = .stateWrite board word)
      ∨ (c = .statusFirstWriteDone ∧ x.kind = .statusFirst)
      ∨ (c = .statusSecondWriteDone ∧ x.kind = .statusSecond)
      ∨ (c = .journalWriteDone ∧ x.kind = .journalWrite)
      ∨ c = .busError
      ∨ (c = .timeout ∧ x.expiryTick ≤ s.now)
      ∨ (c = .discardedTransferEnd ∧ x.discard = true))

/-- The outstanding transfer of a state is of a kind and its result is wanted. -/
def State.Carries (s : State) (kind : TransferKind) : Prop :=
  ∃ x, s.port.outstanding = some x ∧ x.kind = kind ∧ x.discard = false

/-- The tick, the levels outside and the commands that wait: what no command but a change of level touches. -/
def State.SameSurroundings (s t : State) : Prop :=
  t.now = s.now ∧ t.outside = s.outside ∧ t.pending = s.pending

/-- The causes that may have been raised between two states of Engine Control are among `raised`; every other flag of CAUSE is
as it was, and MASK and XBASE too. -/
def Control.RaisesOnly (c d : Control) (raised : List Cause) : Prop :=
  (∀ k, k ∉ raised → d.has k = c.has k) ∧ d.mask = c.mask ∧ d.xbase = c.xbase

/-- The memory port's own registers, the timeout in force and the bus fault count, are as they were. -/
def State.SamePortRegisters (s t : State) : Prop :=
  t.port.timeout = s.port.timeout ∧ t.port.busFaults = s.port.busFaults

/-- The memory port's own registers are as they were, and a transfer that is outstanding goes on. -/
def State.PortGoesOn (s t : State) : Prop :=
  s.SamePortRegisters t ∧ ∀ x, s.port.outstanding = some x → t.port.outstanding = some x

/-- The Service Unit but for what issuing a transfer sets: the unit in hand, the serial and the snapshot (R130, R133). -/
def Service.SameWork (v w : Service) : Prop :=
  w.activity = v.activity ∧ w.step = v.step ∧ w.postList = v.postList ∧ w.boardPos = v.boardPos ∧ w.backlog = v.backlog
    ∧ w.junk = v.junk ∧ w.releaseBad = v.releaseBad ∧ w.noted = v.noted ∧ w.hostControl = v.hostControl
    ∧ w.owed = v.owed ∧ w.passFrame = v.passFrame ∧ w.closingOwed = v.closingOwed

/-- The blocks that act on the lines and in time: nothing of the Frame Timer, the line cells, the banks, the Static Action Unit
and the Spot Queue has changed. -/
def State.SameLinesAndPlans (s t : State) : Prop :=
  t.timer = s.timer ∧ t.cells = s.cells ∧ t.store = s.store ∧ t.static = s.static ∧ t.queue = s.queue

/-- Nothing of the part has changed but the Service Unit's place in its work and the requests at the port. -/
def State.SameButService (s t : State) : Prop :=
  t.control = s.control ∧ s.SameLinesAndPlans t ∧ t.loader = s.loader ∧ t.staging = s.staging ∧ t.writer = s.writer
    ∧ t.health = s.health ∧ t.service.hostControl = s.service.hostControl ∧ s.SamePortRegisters t ∧ s.SameSurroundings t

/-- The flags of the pass and its final state noted are as they were. -/
def Service.SameFlags (v w : Service) : Prop :=
  w.backlog = v.backlog ∧ w.junk = v.junk ∧ w.releaseBad = v.releaseBad ∧ w.noted = v.noted

/-- R126, R133, R136: what was in progress in the Service Unit has ended: a closing write that waited for it follows, else a
pass that was owed begins, else nothing. -/
structure State.UnitFree (s t : State) : Prop where
  free : s.service.closingOwed = false → s.service.owed = false → t.service.activity = .none
  closing : s.service.closingOwed = true → t.service.activity = .closingWait ∧ t.service.closingOwed = false
  owed : s.service.closingOwed = false → s.service.owed = true →
    t.service.activity = .pass ∧ t.service.step = .a ∧ t.Asks .service .stepARead (s.control.xbase + 64) 32
      ∧ Service.SameFlags { s.service with backlog := false, junk := false, releaseBad := false, noted := false } t.service
      ∧ t.service.boardPos = 0 ∧ t.service.postList = [] ∧ t.service.owed = false
      ∧ t.service.passFrame = s.timer.current

/-- R133: a tail has ended. -/
def State.TailEnds (s t : State) : Prop := s.service.activity = .tail → s.UnitFree t

/-- R124, R132: step D of a pass has ended, successful or not: RESULT is raised when a final state was noted, JOURNAL when the
watermark is reached, and the pass is over. -/
structure State.PassEnds (s t : State) : Prop where
  result : t.control.has .result = (s.control.has .result || s.service.noted)
  journal : t.control.has .journal = (s.control.has .journal ||
    decide (s.writer.watermark ≠ 0 ∧ s.writer.watermark.toNat ≤ (s.writer.written - s.writer.released).toNat))
  free : s.UnitFree t

/-- R69, R131: the Loader after a step D write that succeeded and carried the plan status `written`. It is posted only when it
is still the one written, and then an outcome gives way to the FILLING of a load in progress. -/
def Loader.Posted (l m : Loader) (written : PlanStatus) : Prop :=
  (l.status ≠ written → m = l)
    ∧ (l.status = written → m =
      { l with
        posted := true
        status :=
          if l.status.status ∈ [.pending, .current, .rejected, .superseded, .busFailed] ∧ l.filling = true then
            { generation := l.generation, status := .filling, detail := .none }
          else l.status })

/-- R128, R129: step B goes on with a list of board indexes and the queue `q`: the first entry of the list that the queue still
holds is posted; with none step B ends, and step C reads the entry at the board position, or step D begins. -/
structure State.PostingGoesOn (s t : State) (q : Queue) (list : List Nat) : Prop where
  post : ∀ gone i rest e, list = gone ++ i :: rest → (∀ j ∈ gone, q.find j = none) → q.find i = some e →
    t.service.activity = s.service.activity ∧ t.service.step = .b ∧ t.service.postList = i :: rest
      ∧ t.Asks .service (.resultWrite i e.result e.ending.word)
          (s.control.xbase + BitVec.ofNat 64 (192 + 48 * i + 32)) 16
  scan : (∀ j ∈ list, q.find j = none) → s.service.boardPos < s.control.setup.boardCount →
    t.service.activity = s.service.activity ∧ t.service.step = .c ∧ t.service.postList = []
      ∧ t.Asks .service (.boardRead s.service.boardPos)
          (s.control.xbase + BitVec.ofNat 64 (192 + 48 * s.service.boardPos)) 48
  status : (∀ j ∈ list, q.find j = none) → s.control.setup.boardCount ≤ s.service.boardPos →
    t.service.activity = s.service.activity ∧ t.service.step = .d ∧ t.service.postList = []
      ∧ t.Asks .service .statusFirst (s.control.xbase + 160) 32

/-- R129: the scan has handled an entry: in a pass it goes on with the next index or with step D, and a tail ends. -/
structure State.ScanGoesOn (s t : State) : Prop where
  position : s.service.activity = .pass → s.service.step = .c →
    t.service.activity = .pass ∧ t.service.boardPos = s.service.boardPos + 1
  next : s.service.activity = .pass → s.service.step = .c → s.service.boardPos + 1 < s.control.setup.boardCount →
    t.service.step = .c
      ∧ t.Asks .service (.boardRead (s.service.boardPos + 1))
          (s.control.xbase + BitVec.ofNat 64 (192 + 48 * (s.service.boardPos + 1))) 48
  last : s.service.activity = .pass → s.service.step = .c → s.control.setup.boardCount ≤ s.service.boardPos + 1 →
    t.service.step = .d ∧ t.Asks .service .statusFirst (s.control.xbase + 160) 32
  tail : s.TailEnds t

/-- R133: something of the pass goes on after a cut: a transfer of it is outstanding, or a request of a unit whose first
transfer has been issued waits. -/
def State.CutInHand (s : State) : Prop :=
  (∃ x, s.port.outstanding = some x ∧ x.requester = .service ∧ x.discard = false)
    ∨ (s.port.service.isSome = true ∧ s.service.unit ≠ .none)

/-- R124, R132, R133: what a frame end brings at the Service Unit: RESULT and JOURNAL are raised exactly when a pass is cut
that has earned them, and with nothing in hand the request of the cut pass is withdrawn. -/
structure State.PassCut (s t : State) : Prop where
  result : t.control.has .result = (s.control.has .result || (s.service.activity == .pass && s.service.noted))
  journal : t.control.has .journal = (s.control.has .journal || (s.service.activity == .pass &&
    decide (s.writer.watermark ≠ 0 ∧ s.writer.watermark.toNat ≤ (s.writer.written - s.writer.released).toNat)))
  withdrawn : s.service.activity = .pass → ¬ s.CutInHand → t.port.service = none

/-- R29, R103: the entries after spot windows have reported. `reports l board made`: the window of line `l` closes and reports
`made` captures for the entry of a board index. An entry that no window reports for keeps its captures made, one that a single
window reports for takes them, and nothing else of an entry changes. -/
def Queue.Reported (q : Queue) (es : List Entry) (reports : Line → Nat → Nat → Prop) : Prop :=
  ∃ captures : Entry → Nat,
    es = q.entries.map (fun e => { e with result := { e.result with captures := captures e } })
      ∧ ∀ e, ((∀ l made, ¬ reports l e.board made) → captures e = e.result.captures)
        ∧ ∀ l made, reports l e.board made → (∀ k n, reports k e.board n → k = l) → captures e = made

/-- R29: at a frame end every open spot window closes and reports. -/
def State.WindowsReport (s : State) (es : List Entry) : Prop :=
  s.queue.Reported es fun l board made =>
    ∃ w tag, (s.cells.get l).window = some w ∧ w.source = .spot board tag ∧ made = w.made

/-- R57: an eligible generation. -/
def State.Eligible (s : State) (g : Word) : Prop :=
  g ≠ 0 ∧ g ≠ s.store.currentGeneration ∧ s.store.pendingGeneration ≠ some g ∧ g ≠ s.loader.lastRefused

/-- R57 to R59, R61, R63, R64, R69: a plan address and generation have been handed to the Plan Loader. It does nothing
(`ignored`), or a load starts (`started`, and `startedMisaligned` when the address is no multiple of 8), or the load in
progress is overtaken (`overtaken`, `overtakenMisaligned`). -/
structure State.PlanHandedOver (s t : State) (address : Addr) (g : Word) : Prop where
  ignored :
    (s.control.engine ≠ .running ∧ s.control.engine ≠ .held) ∨ ¬ s.Eligible g
        ∨ (s.loader.filling = true ∧ g = s.loader.generation)
        ∨ (s.loader.filling = false ∧ s.store.pendingGeneration ≠ none) →
      t.loader = s.loader ∧ t.store = s.store ∧ t.control = s.control
  started : s.control.engine = .running ∨ s.control.engine = .held → s.Eligible g → s.loader.filling = false →
    s.store.pendingGeneration = none → address.toNat % 8 = 0 →
      t.loader =
          { s.loader with
            filling := true, generation := g, address := address, position := 0, total := none, crc := 0xFFFFFFFF#32
            readOut := if s.loader.readOut = .none then .currentLoad else s.loader.readOut
            status :=
              if s.loader.status.status.isOutcome = true ∧ s.loader.posted = false then s.loader.status
              else { generation := g, status := .filling, detail := .none } }
        ∧ t.store =
            (if s.store.bank0.state = .current then
              { s.store with bank1 := { state := .filling, generation := g, content := [] } }
            else { s.store with bank0 := { state := .filling, generation := g, content := [] } })
        ∧ t.control = s.control ∧ (s.loader.readOut = .none → t.Asks .loader .planRead (address + 0) 32)
  startedMisaligned : s.control.engine = .running ∨ s.control.engine = .held → s.Eligible g → s.loader.filling = false →
    s.store.pendingGeneration = none → address.toNat % 8 ≠ 0 →
      t.loader =
          { s.loader with
            generation := 0, address := address, position := 0, total := none, crc := 0xFFFFFFFF#32, lastRefused := g
            status := { generation := g, status := .rejected, detail := .badFormat }, posted := false }
        ∧ (s.store.bank0.state = .current → t.store.bank0 = s.store.bank0 ∧ t.store.bank1 = .free)
        ∧ (s.store.bank0.state ≠ .current → t.store.bank0 = .free)
        ∧ (s.store.bank0.state ≠ .current → s.store.bank1.state ≠ .filling → t.store.bank1 = s.store.bank1)
        ∧ t.control = { s.control with cause := s.control.cause ||| 0b000100#6 }
  overtaken : s.control.engine = .running ∨ s.control.engine = .held → s.Eligible g → s.loader.filling = true →
    g ≠ s.loader.generation → address.toNat % 8 = 0 →
      t.loader =
          { s.loader with
            generation := g, address := address, position := 0, total := none, crc := 0xFFFFFFFF#32
            readOut := if s.loader.readOut = .none then .currentLoad else .stale
            status := { generation := s.loader.generation, status := .superseded, detail := .none }, posted := false }
        ∧ t.store =
            { s.store with
              bank0 := if s.store.bank0.state = .filling then { state := .filling, generation := g, content := [] }
                else s.store.bank0
              bank1 := if s.store.bank1.state = .filling then { state := .filling, generation := g, content := [] }
                else s.store.bank1 }
        ∧ t.control = { s.control with cause := s.control.cause ||| 0b000100#6 }
        ∧ (s.loader.readOut = .none → t.Asks .loader .planRead (address + 0) 32)
  overtakenMisaligned : s.control.engine = .running ∨ s.control.engine = .held → s.Eligible g → s.loader.filling = true →
    g ≠ s.loader.generation → address.toNat % 8 ≠ 0 →
      t.loader =
          { s.loader with
            filling := false, generation := 0, address := address, position := 0, total := none, crc := 0xFFFFFFFF#32
            readOut := if s.loader.readOut = .none then .none else .stale, lastRefused := g
            status := { generation := g, status := .rejected, detail := .badFormat }, posted := false }
        ∧ t.store =
            { s.store with
              bank0 := if s.store.bank0.state = .filling then .free else s.store.bank0
              bank1 := if s.store.bank1.state = .filling then .free else s.store.bank1 }
        ∧ t.control = { s.control with cause := s.control.cause ||| 0b000100#6 }

/-- The timed events of the part, each with the condition that makes it due at this tick, in the order in which an empty queue
meets them (log 4): R21, R29, R103, R143, R7, R11, R10, R16, R5, R100, R102, R53, R25, R126, R136. A slot or minislot start and
a burst are due while they still have something to change. -/
def State.timedEvents (s : State) : List (Instr × Prop) :=
  let g := s.timer.geometry
  let time := s.timer.frameTime
  let minislot : Nat → Nat := fun t => (t - g.slots * g.slotLength) / g.minislotLength
  (allLines.map fun l => (Instr.outputActionEnd l, ∃ r, (s.cells.get l).running = some r ∧ r.stop ≤ s.now))
    ++ (allLines.map fun l => (Instr.windowCloseTick l, ∃ w, (s.cells.get l).window = some w ∧ w.closeTick ≤ s.now))
    ++ [(.spotActionEnd, ∃ a, s.queue.action = some a ∧ a.stop ≤ s.now),
      (.timeout, ∃ x, s.port.outstanding = some x ∧ x.expiryTick ≤ s.now),
      (.internalFrameEnd, s.control.setup.mode = .internal ∧ time = some g.frameLength),
      (.syncMissing, s.control.setup.mode = .external ∧ time = some (g.frameLength + s.control.setup.tolerance)),
      (.syncAcceptanceOpen, s.timer.acceptance = .earlyZone
        ∧ ∃ t, time = some t ∧ g.frameLength ≤ t + s.control.setup.tolerance),
      (.syncOutPulseEnd, s.timer.syncOut = true ∧ ∃ t, time = some t ∧ 8 ≤ t),
      (.slotStart, ∃ t, time = some t ∧ t % g.slotLength = 0 ∧ t / g.slotLength < g.slots
        ∧ s.timer.phase ≠ .static (t / g.slotLength)),
      (.dynamicPhaseStart, s.timer.phase.isStatic = true ∧ 0 < g.minislots ∧ time = some (g.slots * g.slotLength)),
      (.minislotStart, s.timer.phase.isDynamic = true ∧ ∃ t, time = some t ∧ g.slots * g.slotLength ≤ t
        ∧ (t - g.slots * g.slotLength) % g.minislotLength = 0 ∧ minislot t < g.minislots
        ∧ (s.timer.phase ≠ .dynamic (minislot t) ∨ ∃ e, s.queue.startingAt (minislot t) = some e)),
      (.staticActionStart, ∃ a, nextAction s = some a ∧ time = some (a.slot * g.slotLength + a.offset))]
    ++ (allLines.map fun l => (Instr.burstPeriodChange l, ∃ r p d n, (s.cells.get l).running = some r ∧ r.op = .burst p d n
        ∧ s.now < r.stop ∧ ((s.now - r.start) % p = 0 ∨ (s.now - r.start) % p = min d p)
        ∧ (s.cells.get l).logical ≠ (if (s.now - r.start) % p < min d p then !(s.cells.get l).settings.rest
            else (s.cells.get l).settings.rest)))
    ++ [(.serviceWindowStart, (s.timer.phase.isStatic = true ∨ s.timer.phase.isDynamic = true)
        ∧ time = some (g.slots * g.slotLength + g.minislots * g.minislotLength)),
      (.closingStatusWrite, s.service.activity = .closingWait
        ∧ (s.staging.records = [] ∨ (s.writer.written - s.writer.released).toNat = s.writer.size.toNat))]

/-- R113: whether one of `n` records offered to staging is lost while a frame runs, with no write of the head at the port. -/
def State.ReportsLoss (s : State) (n : Nat) : Bool :=
  !s.journalWriteOutstanding && decide (n ≠ 0 ∧ 32 < s.staging.records.length + n)

/-- R112, R113: whether one of the records that waited for a place is lost, once `records` stand in staging. -/
def Staging.LosesLate (st : Staging) (records : Nat) : Bool :=
  decide (st.offered ≠ [] ∧ 32 < records + st.offered.length)

/-- R158, R159: a refused command changes the CMD readback and raises COMMAND, and leaves every other item. -/
def State.refused (s : State) (code : Byte) (outcome : CmdOutcome) : State :=
  { s with
    control :=
      { s.control with
        readback := { last := code, outcome := outcome, reason := .none, planReason := .none }
        cause := s.control.cause ||| 0b010000#6 } }

/-- R159: Engine Control after a command is taken, with the engine state and the pending command it leaves. -/
def Control.accepted (c : Control) (code : Byte) (engine : EngineState) (pending : PendingCommand) : Control :=
  { c with
    engine := engine
    pending := pending
    readback := { last := code, outcome := .accepted, reason := .none, planReason := .none }
    cause := c.cause ||| 0b010000#6 }

/-- The ways a frame ends (R7, R10, R11), with whether SYNC_MISSING is reported. -/
def State.FrameEndsBy (s : State) (c : Instr) (missing : Bool) : Prop :=
  (c = .internalFrameEnd ∧ missing = false ∧ s.control.setup.mode = .internal
      ∧ s.timer.frameTime = some s.timer.geometry.frameLength)
    ∨ (c = .syncMissing ∧ missing = true ∧ s.control.setup.mode = .external
      ∧ s.timer.frameTime = some (s.timer.geometry.frameLength + s.control.setup.tolerance))
    ∨ (∃ level time, c = .syncInEdge level ∧ missing = false ∧ s.control.setup.mode = .external
      ∧ s.control.engine ≠ .syncWait ∧ activeEdge s.control.setup s.timer.syncSample level = true
      ∧ s.timer.frameTime = some time ∧ time ≠ 0
      ∧ s.timer.geometry.frameLength ≤ time + s.control.setup.tolerance
      ∧ time ≤ s.timer.geometry.frameLength + s.control.setup.tolerance)

/-- The fault set that the ending frame is scored with (R135, R149): its own faults, a missing edge, an overrun. -/
def State.endingFaults (s : State) (missing : Bool) : FaultSet :=
  { s.health.faults with
    sync := s.health.faults.sync || missing
    overrun := s.health.faults.overrun || (s.service.activity == .pass || s.service.owed) }

/-- R151: the score after the ending frame. -/
def State.endingScore (s : State) (missing : Bool) : Nat :=
  scoreAfter s.control.setup s.health.score (s.endingFaults missing)

/-- R170: the settlement of the ending frame. -/
def State.endingSettlement (s : State) (missing : Bool) : Settlement :=
  settle s.control.engine s.control.pending
    (verdict s.control.setup (s.endingScore missing) s.control.engine s.control.pending)

/-- R52: a bank at a switch: PENDING becomes CURRENT with its generation and content, CURRENT becomes FREE with generation 0.
-/
def Bank.SwitchedTo (b c : Bank) : Prop :=
  (b.state = .pending → c = { b with state := .current })
    ∧ (b.state = .current → c = { state := .free, generation := 0, content := [] })
    ∧ (b.state = .free ∨ b.state = .filling → c = b)

/-- A frame has started between `s` and `t` (R2 to R5, R16, R32, R33, R52, R53, R67 to R70, R105, R113, R149). `switches`: the
banks switch exactly when one was PENDING before this tick (log 12). `change` is the STATE record offered, `returning` the
passage from HELD to RUNNING, `last` the last frame length. -/
structure State.FrameStarted (s t : State) (change : Option RecordBody) (returning : Bool) (last : Nat) : Prop where
  timer :
    t.timer =
      { frameTime := some 0, nextFrame := s.timer.nextFrame + 1, current := s.timer.nextFrame,
        geometry := (planHeader t.store.plan).geometry, phase := .static 0,
        acceptance := if s.control.setup.mode = .internal then .off else .earlyZone, earlySeen := false,
        lastLength := last, syncOut := true, syncSample := t.timer.syncSample }
  switches : s.store.switches = true ↔
    s.store.pendingNow = false ∧ (s.store.bank0.state = .pending ∨ s.store.bank1.state = .pending)
  switched : s.store.switches = true →
    s.store.bank0.SwitchedTo t.store.bank0 ∧ s.store.bank1.SwitchedTo t.store.bank1
  kept : s.store.switches = false → t.store.bank0 = s.store.bank0 ∧ t.store.bank1 = s.store.bank1
  static : t.static = { active := true, next := 0, frame := s.timer.nextFrame }
  settings : ∀ l, (t.cells.get l).settings =
    if s.store.switches then planSettings t.store.plan l else (s.cells.get l).settings
  levels : ∀ l, (t.cells.get l).logical =
    if (t.cells.get l).settings.direction = .drive
        ∧ (returning = true ∨ (s.store.switches = true ∧ (s.cells.get l).settings.direction ≠ .drive)) then
      (t.cells.get l).settings.rest
    else (s.cells.get l).logical
  planStatus : t.loader =
    if s.store.switches then
      { s.loader with
        status := { generation := t.store.currentGeneration, status := .current, detail := .none }, posted := false }
    else s.loader
  running : ∀ l, (t.cells.get l).running = (s.cells.get l).running
  samples : ∀ l, (t.cells.get l).prevSample =
    if s.store.switches = true ∧ (t.cells.get l).settings.direction = .sense
        ∧ (s.cells.get l).settings.direction = .drive then none
    else (s.cells.get l).prevSample
  planCause : t.control.has .plan = (s.control.has .plan || s.store.switches)
  records : t.staging =
    s.staging.offerAll s.journalWriteOutstanding
      (change.toList
        ++ if s.store.switches then [.planSwitch t.store.currentGeneration s.store.currentGeneration] else [])
      (s.timer.nextFrame, 0)
  losses : t.health.faultsNow =
    { s.health.faultsNow with
      loss := s.health.faultsNow.loss ||
        s.ReportsLoss (change.toList.length + if s.store.switches then 1 else 0) }
  faults : t.health.faults = { overrun := false, sync := false, bus := false, loss := false }

end Sys2Proof.Machine
end

