-- ==== Sys2Proof/WellFormed.lean ====
section
/-! DEFINITION. Which commands are what their row says: a code that names no command, a write that the register
port ignores. The operand types carry every other bound (a line is one of sixteen, a read has its section's length). -/

namespace Sys2Proof

/-- R158, R177: bits 0 to 7 of a CMD write name one of the six commands. -/
def namesCommand (word : Word) : Bool :=
  let code := (word.setWidth 8).toNat
  1 ≤ code && code ≤ 6

/-- R172: a whole-word access at a valid offset of the register port. -/
def validAccess (offset size : Nat) : Bool :=
  size == 4 && offset % 4 == 0 && offset ≤ 28

/-- R172: the writes that have no effect on the part whatever its state: to IDENT (0), STATE (16) and FRAME (20), of less
than a whole word, or at an invalid offset. -/
def writeIgnored (offset size : Nat) : Bool :=
  !validAccess offset size || offset == 0 || offset == 16 || offset == 20

/-- A command whose operands are those of its row. -/
def Instr.wellFormed : Instr → Bool
  | .unknownCommandCode word => !namesCommand word
  | .ignoredRegisterWrite offset size _ => writeIgnored offset size
  | .resetN | .load | .start | .stop | .resume | .halt | .clear => true
  | .xbaseWrite _ _ | .causeWrite _ | .maskWrite _ | .syncInEdge _ | .lineEdge _ => true
  | .internalFrameEnd | .syncMissing | .syncOutPulseEnd | .slotStart | .staticActionStart => true
  | .burstPeriodChange _ | .outputActionEnd _ | .windowCloseTick _ => true
  | .dynamicPhaseStart | .minislotStart | .spotActionEnd | .serviceWindowStart => true
  | .setupReadDone _ | .loadHostControlReadDone _ | .stepAReadDone _ | .planReadDone _ => true
  | .boardEntryReadDone _ | .resultWriteDone | .stateWordWriteDone => true
  | .statusFirstWriteDone | .statusSecondWriteDone | .closingStatusWrite | .journalWriteDone => true
  | .timeout | .busError | .lateResponse | .discardedTransferEnd | .syncAcceptanceOpen => true

end Sys2Proof
end

