-- ==== Sys2Proof/Certificates/Slice0/Obligations.lean ====
section
/-! DEFINITION. The statements for the provers. -/

open Sys2Proof Sys2Proof.Machine

/-! ## The queue and the clock -/

/-- For every command and state, step of the state with the command at the front of its queue is the command's effect on the
state with the queue's rest. -/
def Obligations.StepRunsTheFrontCommand : Prop :=
  ∀ (c : Instr) (s : State), step { s with pending := c :: s.pending } = exec c s

/-- R1, R9, R26 with the model's choice of log 1: on an empty queue the event that is due joins the queue; with nothing due one
tick passes: frame time counts while a frame runs, SYNC_IN and every pin are sampled, and nothing else of the part moves but
the reports of the tick (R149) and the records that still wait for a place, which are judged (R112, R113; the model's fields of
log 23); the model's field of log 12 is cleared. The event that is due is the first of the timed events whose condition holds,
in the model's order of log 4, and none is due exactly when no condition holds. -/
def Obligations.EmptyQueueMeetsAnEventOrATick : Prop :=
  (∀ (s : State) (c : Instr), s.pending = [] → dueEvent s = some c → step s = .next { s with pending := [c] })
    ∧ (∀ s : State, s.pending = [] → dueEvent s = none →
       ∃ t, step s = .next t
         ∧ t.now = s.now + 1
         ∧ t.timer = { s.timer with frameTime := s.timer.frameTime.map (· + 1), syncSample := some s.outside.sync }
         ∧ (∀ l, t.cells.get l =
             { s.cells.get l with prevSample := some ((s.pin l).level (s.outside.line l)) })
         ∧ t.health.score = s.health.score ∧ t.health.overruns = s.health.overruns
         ∧ t.health.syncFaults = s.health.syncFaults
         ∧ t.health.faults = (if s.timer.frameTime = none then s.health.faults
             else s.health.faults.union { s.health.faultsNow with
               loss := s.health.faultsNow.loss || s.staging.LosesLate s.staging.records.length })
         ∧ t.health.faultsNow = .empty
         ∧ t.store.bank0 = s.store.bank0 ∧ t.store.bank1 = s.store.bank1 ∧ t.store.pendingNow = false
         ∧ t.control = s.control ∧ t.static = s.static ∧ t.loader = s.loader ∧ t.queue = s.queue
         ∧ t.staging = { s.staging.judge with lostNow := 0 } ∧ t.writer = s.writer ∧ t.service = s.service ∧ t.port = s.port
         ∧ t.outside = s.outside ∧ t.pending = [])
    ∧ ∀ s : State,
      (dueEvent s = none ↔ ∀ e ∈ s.timedEvents, ¬ e.2)
        ∧ ∀ c, dueEvent s = some c ↔
          ∃ before e after, s.timedEvents = before ++ e :: after ∧ e.1 = c ∧ e.2 ∧ ∀ d ∈ before, ¬ d.2

/-! ## Invariants -/

/-- R2, R93, R112, R151, R172: every step keeps the frame numbers one apart, the score at most 255, staging at most 32, the
queue at most 16 with each board index once, XBASE a multiple of 64. R94, R128: while the take sequences held are recent, every
step keeps the Spot Queue in queue order; the post list is what is left of the one before or is taken anew, and it is taken
from the FINISHED entries in ascending take sequence. -/
def Obligations.EveryStepKeepsBounds : Prop :=
  (∀ s t : State, s.Bounded → step s = .next t → t.Bounded)
    ∧ (∀ s t : State, s.QueueOrdered → s.queue.TakesRecent → step s = .next t → t.QueueOrdered)
    ∧ (∀ s t : State, step s = .next t →
       t.service.postList <:+ s.service.postList ∨ t.service.postList <:+ s.queue.finishedByTake)
    ∧ ∀ q : Queue, q.TakesRecent →
      ∃ es : List Entry, es.Perm (q.entries.filter fun e => e.status == .finished)
        ∧ es.Pairwise (fun a b => (b.take - a.take).toNat < 2147483648) ∧ q.finishedByTake = es.map Entry.board

/-- R1, R157 to R159: every step keeps the engine state, the frame timer, the pending command and the port in agreement. -/
def Obligations.EveryStepKeepsEngineConsistent : Prop :=
  ∀ s t : State, s.Consistent → step s = .next t → t.Consistent

/-- R50: every step keeps exactly one bank CURRENT in ARMED, SYNC_WAIT, RUNNING and HELD, and at most one FILLING or PENDING.
-/
def Obligations.EveryStepKeepsBanksSound : Prop :=
  ∀ s t : State, s.Consistent → s.BanksSound → step s = .next t → t.BanksSound

/-- R116: every step keeps W − Rl between 0 and J while the writer is enabled. R116, R117: every step keeps the writer's write
of the head record at the port, at slot W mod J, whenever the writer is enabled, staging holds a record and W − Rl is below J.
That a record waits for the head's place is the model's field of log 23. -/
def Obligations.EveryStepKeepsJournalWithinRing : Prop :=
  (∀ s t : State, s.Consistent → s.JournalSound → step s = .next t → t.JournalSound)
    ∧ ∀ s t : State, s.Consistent → s.JournalSound → s.WriterServed → step s = .next t → t.WriterServed

/-- The invariants hold right after RESET_N. -/
def Obligations.InvariantsHoldAtReset : Prop :=
  State.reset.Bounded ∧ State.reset.Consistent ∧ State.reset.BanksSound ∧ State.reset.JournalSound
    ∧ State.reset.WriterServed ∧ State.reset.QueueOrdered ∧ State.reset.queue.TakesRecent ∧ State.reset.PortServed

/-! ## RESET_N -/

/-- R17, R36, R56, R72, R109, R125, R138, R148, R156, R174: RESET_N, in any state, puts the part in its reset state, whose
values the second clause gives. The tick counter, the levels outside, the count of free choices and the queue are the model's
own and stay (log 18). -/
def Obligations.ResetRestoresTheResetState : Prop :=
  (∀ s : State, exec .resetN s =
       .next { State.reset with outside := s.outside, now := s.now, choices := s.choices, pending := s.pending })
    ∧ (let s := State.reset
     s.control.engine = .idle ∧ s.control.pending = .none ∧ s.control.stage = .none ∧ s.control.loading = none
       ∧ s.control.readback = { last := 0, outcome := .none, reason := .none, planReason := .none }
       ∧ s.control.setup.mode = .internal ∧ s.control.setup.activeEdge = .rise ∧ s.control.setup.tolerance = 0
       ∧ s.control.setup.boardCount = 0 ∧ s.control.setup.overrunWeight = 0 ∧ s.control.setup.syncWeight = 0
       ∧ s.control.setup.busWeight = 0 ∧ s.control.setup.lossWeight = 0 ∧ s.control.setup.hold = 0
       ∧ s.control.setup.halt = 0 ∧ s.control.setup.resume = 0 ∧ s.control.setup.autoResume = false
       ∧ s.control.xbase = 0 ∧ s.control.cause = 0 ∧ s.control.mask = 0 ∧ s.irq = false
       ∧ s.timer.frameTime = none ∧ s.timer.nextFrame = 0 ∧ s.timer.current = 4294967295#32
       ∧ s.timer.phase = .none ∧ s.timer.acceptance = .off ∧ s.timer.earlySeen = false
       ∧ s.timer.lastLength = 0 ∧ s.timer.syncOut = false ∧ s.timer.syncSample = none
       ∧ s.timer.geometry =
           { frameLength := 0, slots := 0, slotLength := 0, minislots := 0, minislotLength := 0, latestStart := 0 }
       ∧ (∀ l, s.pin l = .released ∧ s.cells.get l =
           { settings := { direction := .none, rest := false, safe := false, invert := false }, logical := false,
             running := none, window := none, prevSample := none })
       ∧ s.store.bank0.state = .free ∧ s.store.bank1.state = .free
       ∧ s.store.bank0.generation = 0 ∧ s.store.bank1.generation = 0
       ∧ s.static = { active := false, next := 0, frame := 0 }
       ∧ s.loader =
           { filling := false, generation := 0, address := 0, position := 0, total := none, crc := 0xFFFFFFFF,
             readOut := .none, lastRefused := 0, status := { generation := 0, status := .none, detail := .none },
             posted := true }
       ∧ s.queue = { entries := [], nextTake := 0, runList := [], nextFree := 0, action := none }
       ∧ s.staging = { records := [], lossAccumulator := 0, lost := 0, offered := [], lostNow := 0 }
       ∧ s.writer = { base := 0, size := 0, written := 0, released := 0, watermark := 0, enabled := false }
       ∧ s.service.activity = .none ∧ s.service.postList = [] ∧ s.service.unit = .none ∧ s.service.boardPos = 0
       ∧ s.service.backlog = false ∧ s.service.junk = false ∧ s.service.releaseBad = false ∧ s.service.noted = false
       ∧ s.service.hostControl = { planAddress := 0, planGeneration := 0, release := 0, watermark := 0 }
       ∧ s.service.serial = 0 ∧ s.service.owed = false
       ∧ s.port =
           { service := none, writer := none, loader := none, outstanding := none, timeout := 65535, busFaults := 0 }
       ∧ s.health.score = 0 ∧ s.health.overruns = 0 ∧ s.health.syncFaults = 0
       ∧ s.health.faults = { overrun := false, sync := false, bus := false, loss := false })

/-! ## Commands at the register port -/

/-- R158, R159, R177: a code that names no command is refused with REFUSED_CODE; while a command is pending every command but
HALT with REFUSED_BUSY; with nothing pending a command that the state does not accept with REFUSED_STATE. Nothing but the
readback and the COMMAND cause changes. -/
def Obligations.RefusedCommandChangesOnlyTheReadback : Prop :=
  (∀ (w : Word) (s : State), (Instr.unknownCommandCode w).wellFormed = true →
       exec (.unknownCommandCode w) s = .next (s.refused (w.setWidth 8) .refusedCode))
    ∧ (∀ s : State, s.control.pending ≠ .none →
       exec .load s = .next (s.refused 1 .refusedBusy) ∧ exec .start s = .next (s.refused 2 .refusedBusy)
         ∧ exec .stop s = .next (s.refused 3 .refusedBusy) ∧ exec .resume s = .next (s.refused 4 .refusedBusy)
         ∧ exec .clear s = .next (s.refused 6 .refusedBusy))
    ∧ (∀ s : State, s.control.pending = .none →
       (s.control.engine ≠ .idle → exec .load s = .next (s.refused 1 .refusedState))
         ∧ (s.control.engine ≠ .armed → exec .start s = .next (s.refused 2 .refusedState))
         ∧ (s.control.engine ≠ .running ∧ s.control.engine ≠ .held ∧ s.control.engine ≠ .syncWait →
             exec .stop s = .next (s.refused 3 .refusedState))
         ∧ (s.control.engine ≠ .held ∨ s.control.setup.resume < s.health.score →
             exec .resume s = .next (s.refused 4 .refusedState))
         ∧ (s.control.engine ≠ .armed ∧ s.control.engine ≠ .halted →
             exec .clear s = .next (s.refused 6 .refusedState)))

/-- R17, R36, R56, R72, R109, R125, R138, R148, R156, R160: LOAD taken in IDLE. The setup in force, XBASE, the other causes
and MASK stay, and the 64-byte setup read is asked for at XBASE. That the plan status waits for the initial load is the
model's reading of log 15. -/
def Obligations.LoadTakenSetsBlocksAndReadsSetup : Prop :=
  ∀ s : State, s.control.engine = .idle → s.control.pending = .none →
    ∃ t, exec .load s = .next t
      ∧ t.control = { s.control.accepted 1 .loading .load with stage := .setupRead, loading := none }
      ∧ t.timer.frameTime = none ∧ t.timer.nextFrame = 0 ∧ t.timer.current = 4294967295#32
      ∧ t.timer.phase = .none ∧ t.timer.acceptance = .off ∧ t.timer.earlySeen = false ∧ t.timer.lastLength = 0
      ∧ t.timer.syncOut = false ∧ t.timer.syncSample = s.timer.syncSample ∧ t.timer.geometry = .empty
      ∧ (∀ l, t.cells.get l = { Cell.reset with prevSample := (s.cells.get l).prevSample } ∧ t.pin l = .released)
      ∧ t.store.bank0 = .free ∧ t.store.bank1 = .free
      ∧ t.static = { active := false, next := 0, frame := s.static.frame }
      ∧ t.loader.filling = false ∧ t.loader.readOut = .none ∧ t.loader.lastRefused = 0 ∧ t.loader.posted = true
      ∧ t.queue = .reset ∧ t.staging = .reset
      ∧ t.writer = { s.writer with enabled := false }
      ∧ t.service.activity = .none ∧ t.service.postList = [] ∧ t.service.boardPos = 0 ∧ t.service.unit = .none
      ∧ t.service.hostControl = s.service.hostControl ∧ t.service.serial = s.service.serial
      ∧ t.service.backlog = false ∧ t.service.junk = false ∧ t.service.releaseBad = false ∧ t.service.noted = false
      ∧ t.service.owed = false
      ∧ t.port.timeout = 65535 ∧ t.port.busFaults = 0 ∧ t.port.writer = none ∧ t.port.loader = none
      ∧ (∀ x, s.port.outstanding = some x → t.port.outstanding = some x)
      ∧ t.Asks .service .setupRead (s.control.xbase + 0) 64
      ∧ t.health.score = 0 ∧ t.health.overruns = 0 ∧ t.health.syncFaults = 0 ∧ t.health.faults = .empty
      ∧ s.SameSurroundings t

/-- R8, R165: START in ARMED in internal mode: the score is 0, the engine RUNNING, and the first frame starts with the STATE
record (RUNNING, COMMAND). A closing write whose first write has not been issued is given up, and one already issued goes on
(R136); that its waiting request leaves the port is the model's choice of log 26. R52, R67: a bank PENDING before this tick
becomes CURRENT with its generation and content, and the one that was CURRENT FREE with generation 0; that a bank which became
PENDING at this very tick does not switch is the model's reading of log 12. The empty previous sample of a line that turns from
DRIVE to SENSE is the model's choice of log 7. -/
def Obligations.StartInternalStartsTheFirstFrame : Prop :=
  ∀ s : State, s.control.engine = .armed → s.control.pending = .none → s.control.setup.mode = .internal →
    ∃ t, exec .start s = .next t
      ∧ t.control.engine = .running ∧ t.control.pending = .none
      ∧ t.control.readback = { last := 2, outcome := .accepted, reason := .none, planReason := .none }
      ∧ t.control.has .command = true ∧ s.control.RaisesOnly t.control [.command, .plan]
      ∧ t.control.setup = s.control.setup ∧ t.control.stage = s.control.stage
      ∧ t.control.loading = s.control.loading
      ∧ s.FrameStarted t (some (.state .running .command)) false s.timer.lastLength
      ∧ t.timer.syncSample = s.timer.syncSample
      ∧ t.health.score = 0 ∧ t.health.overruns = s.health.overruns ∧ t.health.syncFaults = s.health.syncFaults
      ∧ (∀ l, (t.cells.get l).window = (s.cells.get l).window)
      ∧ t.queue = { s.queue with
          entries :=
            if s.store.switches then s.queue.entries.map (Entry.revalidate t.store.plan) else s.queue.entries
          runList := [], action := none }
      ∧ (s.service.activity = .closingWait → t.service.activity = .none)
      ∧ (s.service.activity = .statusWrite → (∃ w, s.port.service = some w ∧ w.kind = .statusFirst) →
          t.service.activity = .none ∧ t.port.service = none)
      ∧ (s.service.activity = .statusWrite → (∀ w, s.port.service = some w → w.kind ≠ .statusFirst) →
          t.service.activity = .statusWrite
            ∧ (s.port.outstanding ≠ none → t.port.service = s.port.service))
      ∧ t.service.closingOwed = false ∧ t.service.hostControl = s.service.hostControl
      ∧ t.writer = s.writer ∧ s.PortGoesOn t ∧ s.SameSurroundings t

/-- R13, R136, R165: START in ARMED in external mode: SYNC_WAIT, AWAIT_FIRST, score 0, no record; a closing write whose first
write has not been issued is given up, and one already issued goes on; that the waiting request of the one given up leaves the
port is the model's choice of log 26. -/
def Obligations.StartExternalAwaitsTheFirstEdge : Prop :=
  ∀ s : State, s.control.engine = .armed → s.control.pending = .none → s.control.setup.mode = .external →
    ∃ t, exec .start s = .next t
      ∧ t.control = s.control.accepted 2 .syncWait .none
      ∧ t.timer = { s.timer with acceptance := .awaitFirst, earlySeen := false }
      ∧ t.health = { s.health with score := 0, faults := .empty }
      ∧ (s.service.activity = .closingWait → t.service.activity = .none)
      ∧ (s.service.activity = .statusWrite → (∃ w, s.port.service = some w ∧ w.kind = .statusFirst) →
          t.service.activity = .none ∧ t.port.service = none)
      ∧ (s.service.activity = .statusWrite → (∀ w, s.port.service = some w → w.kind ≠ .statusFirst) →
          t.service.activity = .statusWrite ∧ t.port.service = s.port.service)
      ∧ t.service.closingOwed = false ∧ t.service.serial = s.service.serial
      ∧ t.cells = s.cells ∧ t.store = s.store ∧ t.static = s.static ∧ t.loader = s.loader ∧ t.staging = s.staging
      ∧ t.writer = s.writer ∧ t.queue.entries = s.queue.entries ∧ t.queue.nextTake = s.queue.nextTake
      ∧ t.queue.runList = [] ∧ t.queue.action = none ∧ t.queue.nextFree = s.queue.nextFree
      ∧ t.service.hostControl = s.service.hostControl ∧ t.port.outstanding = s.port.outstanding
      ∧ s.PortGoesOn t ∧ s.SameSurroundings t

/-- R158, R166, R167: STOP taken in RUNNING or HELD, and RESUME taken in HELD with the score at most Q, become pending, and
nothing else changes. -/
def Obligations.StopAndResumeBecomePending : Prop :=
  (∀ s : State, s.control.engine = .running ∨ s.control.engine = .held → s.control.pending = .none →
       exec .stop s = .next { s with control := s.control.accepted 3 s.control.engine .stop })
    ∧ (∀ s : State, s.control.engine = .held → s.control.pending = .none → s.health.score ≤ s.control.setup.resume →
       exec .resume s = .next { s with control := s.control.accepted 4 .held .resume })

/-- R35, R51, R111, R136, R166: STOP taken in SYNC_WAIT completes at once. The engine is ARMED, acceptance OFF, the drive
lines at rest level, the STATE record offered, and the closing write waits; behind a tail or a status write in progress it is
owed. -/
def Obligations.StopInSyncWaitCompletes : Prop :=
  ∀ s : State, s.control.engine = .syncWait → s.control.pending = .none →
    ∃ t, exec .stop s = .next t
      ∧ t.control = s.control.accepted 3 .armed .none
      ∧ t.timer = { s.timer with acceptance := .off }
      ∧ t.staging = s.staging.offerAll s.journalWriteOutstanding [.state .armed .command] (s.timer.current, s.timer.lastLength)
      ∧ (∀ l, t.cells.get l = (s.cells.get l).toRest)
      ∧ (s.service.activity = .none ∨ s.service.activity = .closingWait → t.service.activity = .closingWait)
      ∧ (s.service.activity = .tail ∨ s.service.activity = .statusWrite →
          t.service.activity = s.service.activity ∧ t.service.closingOwed = true)
      ∧ t.static = s.static ∧ t.loader = s.loader ∧ t.queue = s.queue ∧ t.writer = s.writer
      ∧ t.store = s.store.dropFilling ∧ t.service.hostControl = s.service.hostControl
      ∧ t.health.score = s.health.score ∧ t.health.overruns = s.health.overruns
      ∧ t.health.syncFaults = s.health.syncFaults ∧ s.PortGoesOn t ∧ s.SameSurroundings t

/-- R15, R34, R55, R66, R107, R120, R125, R138, R146, R155, R164, R168: HALT in any state but HALTED acts on every block. In
HALTED it sets the readback, cuts the line cells (R34), empties the Spot Queue (R107) and puts the Service Unit at its HALT
values (R138), each of which HALT does in any state; staging, the writer and the port stay as they were (R120, R146). A capture
taken at the tick of a HALT leaves staging and its counts as if HALT had been taken first (R34). That a HALT counts as lost a
STATE or PLAN_SWITCH record which waited for the head's place, and takes the captures and marks of the tick out of the count by
a count of its own, is the model's (log 23). -/
def Obligations.HaltActsOnEveryBlock : Prop :=
  (∀ s : State, s.control.engine ≠ .halted →
       ∃ t, exec .halt s = .next t
         ∧ t.control.engine = .halted ∧ t.control.pending = .none ∧ t.control.stage = .none ∧ t.control.loading = none
         ∧ t.control.readback =
             (match s.control.pending with
             | .none => { last := 5, outcome := .accepted, reason := .none, planReason := .none }
             | .load => { last := 1, outcome := .failed, reason := .halted, planReason := .none }
             | .stop => { last := 3, outcome := .overridden, reason := .none, planReason := .none }
             | .resume => { last := 4, outcome := .overridden, reason := .none, planReason := .none })
         ∧ t.control.cause = s.control.cause ||| 0b010000#6
         ∧ t.control.setup = s.control.setup ∧ t.control.xbase = s.control.xbase ∧ t.control.mask = s.control.mask
         ∧ t.timer = { s.timer with
             frameTime := none, phase := .none, acceptance := .off, earlySeen := false, syncOut := false }
         ∧ (∀ l, t.cells.get l = { s.cells.get l with running := none, window := none })
         ∧ (∀ l, (s.cells.get l).settings.direction = .drive → t.pin l = .driven (s.cells.get l).settings.safe)
         ∧ (∀ l, (s.cells.get l).settings.direction ≠ .drive → t.pin l = .released)
         ∧ (s.store.bank0.state = .filling ∨ s.control.engine = .loading → t.store.bank0 = .free)
         ∧ (s.store.bank1.state = .filling → t.store.bank1 = .free)
         ∧ (s.store.bank0.state ≠ .filling → s.control.engine ≠ .loading → t.store.bank0 = s.store.bank0)
         ∧ (s.store.bank1.state ≠ .filling → t.store.bank1 = s.store.bank1)
         ∧ t.static = { s.static with active := false, next := 0 }
         ∧ t.loader = { s.loader with filling := false, generation := 0, readOut := .none }
         ∧ t.queue = { entries := [], nextTake := s.queue.nextTake, runList := [], nextFree := 0, action := none }
         ∧ t.staging =
             { records := [], lossAccumulator := 0, offered := [], lostNow := 0
               lost := s.staging.lost - s.staging.lostNow
                 + BitVec.ofNat 32 (s.staging.offered.countP fun o => !o.body.undoneByHalt) }
         ∧ t.writer = { s.writer with enabled := false }
         ∧ t.service =
             { s.service with
               activity := .none, postList := [], boardPos := 0, unit := .none, backlog := false, junk := false,
               releaseBad := false, noted := false, owed := false, closingOwed := false }
         ∧ t.port.service = none ∧ t.port.writer = none ∧ t.port.loader = none
         ∧ t.port.outstanding = s.port.outstanding.map (fun x => { x with discard := true })
         ∧ t.port.timeout = s.port.timeout ∧ t.port.busFaults = s.port.busFaults
         ∧ t.health.score = s.health.score ∧ t.health.faults = .empty
         ∧ t.health.overruns = s.health.overruns ∧ t.health.syncFaults = s.health.syncFaults
         ∧ s.SameSurroundings t)
    ∧ (∀ s : State, s.control.engine = .halted →
       exec .halt s = .next
         { s with
           control :=
             { s.control with
               readback := { last := 5, outcome := .accepted, reason := .none, planReason := .none }
               cause := s.control.cause ||| 0b010000#6 }
           cells := s.cells.map fun c => { c with running := none, window := none }
           queue := { entries := [], nextTake := s.queue.nextTake, runList := [], nextFree := 0, action := none }
           service :=
             { s.service with
               activity := .none, postList := [], boardPos := 0, unit := .none, backlog := false, junk := false,
               releaseBad := false, noted := false, owed := false, closingOwed := false } })
    ∧ ∀ (levels : BitVec 16) (s : State), s.control.engine ≠ .halted →
      ∃ t u v, exec (.lineEdge levels) s = .next t ∧ exec .halt t = .next u ∧ exec .halt s = .next v
        ∧ u.staging = v.staging ∧ u.writer = v.writer

/-- R17, R36, R56, R72, R109, R125, R138, R148, R156, R169: CLEAR taken in ARMED or HALTED. Every block takes its CLEAR
values, the engine is IDLE, the readback CLEAR, ACCEPTED, B is 0, and an outstanding transfer is discarded. -/
def Obligations.ClearReturnsEveryBlockToIdle : Prop :=
  ∀ s : State, s.control.engine = .armed ∨ s.control.engine = .halted → s.control.pending = .none →
    ∃ t, exec .clear s = .next t
      ∧ t.control.engine = .idle ∧ t.control.pending = .none
      ∧ t.control.readback = { last := 6, outcome := .accepted, reason := .none, planReason := .none }
      ∧ t.control.setup = { s.control.setup with boardCount := 0 }
      ∧ t.control.xbase = s.control.xbase ∧ t.control.mask = s.control.mask
      ∧ t.control.cause = s.control.cause ||| 0b010000#6
      ∧ t.timer.phase = .none ∧ t.timer.acceptance = .off ∧ t.timer.earlySeen = false ∧ t.timer.syncOut = false
      ∧ t.timer.geometry = .empty ∧ t.timer.frameTime = none ∧ t.timer.current = s.timer.current
      ∧ t.timer.nextFrame = s.timer.nextFrame ∧ t.timer.lastLength = s.timer.lastLength
      ∧ t.timer.syncSample = s.timer.syncSample
      ∧ (∀ l, t.cells.get l = { Cell.reset with prevSample := (s.cells.get l).prevSample } ∧ t.pin l = .released)
      ∧ t.store.bank0 = .free ∧ t.store.bank1 = .free
      ∧ t.static = { active := false, next := 0, frame := s.static.frame }
      ∧ t.loader = .reset ∧ t.queue = .reset ∧ t.staging = .reset
      ∧ t.writer = { s.writer with written := 0, released := 0, watermark := 0, enabled := false }
      ∧ t.service =
          { s.service with
            activity := .none, postList := [], boardPos := 0, unit := .none, backlog := false, junk := false,
            releaseBad := false, noted := false, owed := false, closingOwed := false, hostControl := .zero }
      ∧ t.port =
          { service := none, writer := none, loader := none,
            outstanding := s.port.outstanding.map (fun x => { x with discard := true }),
            timeout := 65535, busFaults := 0 }
      ∧ t.health.score = 0 ∧ t.health.overruns = 0 ∧ t.health.syncFaults = 0 ∧ t.health.faults = .empty
      ∧ s.SameSurroundings t

/-! ## The other words of the register port -/

/-- R172, and R177 for the CMD readback: what a read of each word returns; the writes that are ignored; a write to XBASE_LO or
XBASE_HI is taken in IDLE, the six lowest bits dropped, and ignored in every other state; RESET_N makes the base 0, and LOAD,
HALT and CLEAR keep it; a base at which memory does not answer, with an error response or with none until the timer runs out,
fails LOAD with BUS at the setup read. The fields of CMD, CAUSE and MASK are those of R159, R173 and R177; the plan reason is 0
except with PLAN_REJECTED, and the bits that carry no field read 0. -/
def Obligations.RegisterPortWords : Prop :=
  (∀ s : State,
       (s.readRegister 0 4).extractLsb' 0 8 = 1 ∧ (s.readRegister 0 4).extractLsb' 8 12 = 416
         ∧ (s.readRegister 0 4).extractLsb' 20 12 = 0xD5
         ∧ s.readRegister 8 4 ++ s.readRegister 4 4 = s.control.xbase
         ∧ (s.Bounded → (s.readRegister 4 4).extractLsb' 0 6 = 0)
         ∧ (s.readRegister 12 4).extractLsb' 0 8 = s.control.readback.last
         ∧ (s.readRegister 12 4).extractLsb' 8 4 = BitVec.ofNat 4 s.control.readback.outcome.code
         ∧ (s.readRegister 12 4).extractLsb' 16 8 = BitVec.ofNat 8 s.control.readback.reason.code
         ∧ ((s.readRegister 12 4).getLsbD 31 = true ↔ s.control.pending ≠ .none)
         ∧ (s.Consistent →
             (s.readRegister 12 4).extractLsb' 24 4 = BitVec.ofNat 4 s.control.readback.planReason.code
               ∧ (s.control.readback.reason ≠ .planRejected → (s.readRegister 12 4).extractLsb' 24 4 = 0)
               ∧ (s.readRegister 12 4).extractLsb' 28 3 = 0)
         ∧ (s.readRegister 12 4).extractLsb' 12 4 = 0
         ∧ (s.readRegister 16 4).extractLsb' 4 4 = 0
         ∧ (s.health.score ≤ 255 → (s.readRegister 16 4).extractLsb' 16 16 = 0)
         ∧ (s.readRegister 16 4).extractLsb' 0 4 = BitVec.ofNat 4 s.control.engine.code
         ∧ (s.health.score ≤ 255 → (s.readRegister 16 4).extractLsb' 8 8 = BitVec.ofNat 8 s.health.score)
         ∧ (s.Consistent → s.control.engine = .idle ∨ s.control.engine = .loading →
             (s.readRegister 16 4).extractLsb' 8 8 = 0)
         ∧ s.readRegister 20 4 = (if s.timer.frameTime.isSome then s.timer.current else s.timer.nextFrame)
         ∧ s.readRegister 24 4 = s.control.cause.setWidth 32 ∧ s.readRegister 28 4 = s.control.mask.setWidth 32)
    ∧ (∀ (s : State) (offset size : Nat), size ≠ 4 ∨ 28 < offset ∨ offset % 4 ≠ 0 → s.readRegister offset size = 0)
    ∧ (∀ (high : Bool) (w : Word) (s : State),
       (s.control.engine = .idle → exec (.xbaseWrite high w) s =
           .next { s with control := { s.control with
             xbase :=
               if high then w ++ s.control.xbase.extractLsb' 0 32
               else s.control.xbase.extractLsb' 32 32 ++ (w.extractLsb' 6 26 ++ 0#6) } })
         ∧ (s.control.engine ≠ .idle → exec (.xbaseWrite high w) s = .next s))
    ∧ (∀ (offset size : Nat) (w : Word) (s : State), (Instr.ignoredRegisterWrite offset size w).wellFormed = true →
       exec (.ignoredRegisterWrite offset size w) s = .next s)
    ∧ (∀ offset size : Nat, (Instr.ignoredRegisterWrite offset size 0).wellFormed = true ↔
       size ≠ 4 ∨ 28 < offset ∨ offset % 4 ≠ 0 ∨ offset = 0 ∨ offset = 16 ∨ offset = 20)
    ∧ (∀ s : State,
       (∃ t, exec .resetN s = .next t ∧ t.control.xbase = 0) ∧ (∃ t, exec .load s = .next t ∧ t.control.xbase = s.control.xbase)
         ∧ (∃ t, exec .halt s = .next t ∧ t.control.xbase = s.control.xbase)
         ∧ (∃ t, exec .clear s = .next t ∧ t.control.xbase = s.control.xbase))
    ∧ (∀ (s : State) (x : Transfer) (c : Instr), s.port.outstanding = some x → x.kind = .setupRead → x.discard = false →
       c = .busError ∨ (c = .timeout ∧ x.expiryTick ≤ s.now) →
       ∃ t, exec c s = .next t ∧ t.control.engine = .idle
         ∧ t.control.readback = { last := 1, outcome := .failed, reason := .bus, planReason := .none })

/-- R173: a write to CAUSE clears every flag whose bit in the written word is 1 and leaves the others; a write to MASK sets
each of the six flags to the written bit; neither touches another item. IRQ is asserted exactly while some cause is set in
CAUSE with its flag set in MASK. -/
def Obligations.CauseMaskAndIrq : Prop :=
  (∀ (w : Word) (s : State), ∃ t, exec (.causeWrite w) s = .next t
       ∧ (∀ i, i < 6 → t.control.cause.getLsbD i = (s.control.cause.getLsbD i && !w.getLsbD i))
       ∧ t = { s with control := { s.control with cause := t.control.cause } })
    ∧ (∀ (w : Word) (s : State), ∃ t, exec (.maskWrite w) s = .next t
       ∧ (∀ i, i < 6 → t.control.mask.getLsbD i = w.getLsbD i)
       ∧ t = { s with control := { s.control with mask := t.control.mask } })
    ∧ (∀ s : State, s.irq = true ↔ ∃ i, i < 6 ∧ s.control.cause.getLsbD i = true ∧ s.control.mask.getLsbD i = true)

/-! ## SYNC_IN and the timing lines -/

/-- R13, R111, R165: the first active edge in SYNC_WAIT starts the first frame; COMMAND is not raised again. R52, R67: a bank
PENDING before this tick becomes CURRENT with its generation and content, and the one that was CURRENT FREE with generation 0;
that a bank which became PENDING at this very tick does not switch is the model's reading of log 12. The empty previous sample
of a line that turns from DRIVE to SENSE is the model's choice of log 7. -/
def Obligations.FirstEdgeStartsTheRun : Prop :=
  ∀ (level : Bool) (s : State), s.control.engine = .syncWait → s.control.setup.mode = .external →
    activeEdge s.control.setup s.timer.syncSample level = true →
    ∃ t, exec (.syncInEdge level) s = .next t
      ∧ t.control.engine = .running ∧ t.control.pending = s.control.pending
      ∧ t.control.readback = s.control.readback ∧ t.control.has .command = s.control.has .command
      ∧ s.FrameStarted t (some (.state .running .command)) false s.timer.lastLength
      ∧ t.timer.syncSample = some level
      ∧ s.control.RaisesOnly t.control [.plan] ∧ t.control.setup = s.control.setup
      ∧ (∀ l, (t.cells.get l).window = (s.cells.get l).window)
      ∧ t.queue = { s.queue with
          entries :=
            if s.store.switches then s.queue.entries.map (Entry.revalidate t.store.plan) else s.queue.entries }
      ∧ s.service.SameWork t.service ∧ t.writer = s.writer ∧ s.PortGoesOn t
      ∧ t.health.score = s.health.score ∧ t.health.overruns = s.health.overruns
      ∧ t.health.syncFaults = s.health.syncFaults ∧ t.outside = { s.outside with sync := level }
      ∧ t.now = s.now ∧ t.pending = s.pending

/-- R12: an early edge of a running frame: frame timing is untouched; the first one of the frame sets the early-seen flag and
is one SYNC_FAULT of the running frame and one occurrence; a later one has no effect. A frame start clears the flag. That an
active edge at frame time 0 has no effect but its sample is the model's reading of log 20. -/
def Obligations.EarlyEdgeIsReportedOnce : Prop :=
  (∀ (level : Bool) (time : Nat) (s : State), s.control.setup.mode = .external → s.control.engine ≠ .syncWait →
    s.timer.frameTime = some time → time + s.control.setup.tolerance < s.timer.geometry.frameLength →
    activeEdge s.control.setup s.timer.syncSample level = true →
    (time ≠ 0 → s.timer.earlySeen = false → exec (.syncInEdge level) s =
        .next { s with
          outside := { s.outside with sync := level }
          timer := { s.timer with syncSample := some level, earlySeen := true }
          health := { s.health with
            faults := { s.health.faults with sync := true }
            syncFaults := s.health.syncFaults + 1 } })
      ∧ (time = 0 ∨ s.timer.earlySeen = true → exec (.syncInEdge level) s =
        .next { s with
          outside := { s.outside with sync := level }
          timer := { s.timer with syncSample := some level } }))
    ∧ ∀ (change : Option RecordBody) (returning : Bool) (s : State),
        (frameStart change returning s).timer.earlySeen = false

/-- R7, R9: what an active edge is; and that a SYNC_IN level that is no active edge, or an active edge in internal mode, or
outside SYNC_WAIT and a running frame, is sampled and has no other effect. -/
def Obligations.OtherSyncLevelsAreOnlySampled : Prop :=
  (∀ (level : Bool) (s : State),
       activeEdge s.control.setup s.timer.syncSample level = false ∨ s.control.setup.mode = .internal
         ∨ (s.control.engine ≠ .syncWait ∧ s.timer.frameTime = none) →
       exec (.syncInEdge level) s =
         .next { s with
           outside := { s.outside with sync := level }
           timer := { s.timer with syncSample := some level } })
    ∧ (∀ (u : Setup) (earlier : Option Bool) (later : Bool),
       activeEdge u earlier later = true ↔
         (u.activeEdge = .rise ∧ earlier = some false ∧ later = true)
           ∨ (u.activeEdge = .fall ∧ earlier = some true ∧ later = false))

/-- R19: the pin of every line in every engine state. -/
def Obligations.PinFollowsStateAndDirection : Prop :=
  ∀ (s : State) (l : Line),
    s.pin l =
      if (s.cells.get l).settings.direction = .drive ∧ s.control.engine ≠ .idle ∧ s.control.engine ≠ .loading then
        if s.control.engine = .held ∨ s.control.engine = .halted then .driven (s.cells.get l).settings.safe
        else .driven ((s.cells.get l).logical ^^ (s.cells.get l).settings.invert)
      else .released

/-- R26, R28, R29: the line cells take the samples of a tick: each cell has its own capture judged, records join in ascending
line number with the stamp of the tick, a record lost while a frame runs reports CAPTURE_LOSS (R113), a spot window that closes
at its last capture gives its entry its captures made (R29, R103), and nothing of the engine moves. One command carries all
sixteen levels (the model's choice of log 6). -/
def Obligations.LineEdgeCapturesInLineOrder : Prop :=
  ∀ (levels : BitVec 16) (s : State),
    ∃ t, exec (.lineEdge levels) s = .next t
      ∧ (∀ l, t.cells.get l =
          (s.cells.get l).afterSample s.now ((s.pin l).level (levels.getLsbD l.val)))
      ∧ t.staging = s.staging.offerAll s.journalWriteOutstanding
          (allLines.filterMap fun l =>
            ((s.cells.get l).captures s.now ((s.pin l).level (levels.getLsbD l.val))).map
              fun p => RecordBody.capture l p.1 p.2.source)
          (stamp s)
      ∧ t.control = s.control ∧ t.timer = s.timer ∧ t.store = s.store ∧ t.static = s.static ∧ t.loader = s.loader
      ∧ t.writer = s.writer ∧ s.service.SameWork t.service ∧ s.PortGoesOn t
      ∧ t.queue = { s.queue with entries := t.queue.entries }
      ∧ s.queue.Reported t.queue.entries (fun l board made =>
          ∃ w tag, (s.cells.get l).window = some w ∧ w.source = .spot board tag ∧ w.left ≤ 1 ∧ made = w.made + 1
            ∧ ((s.cells.get l).captures s.now ((s.pin l).level (levels.getLsbD l.val))).isSome = true)
      ∧ t.health.faultsNow =
          { s.health.faultsNow with
            loss := s.health.faultsNow.loss || (s.timer.frameTime.isSome &&
              s.ReportsLoss (allLines.countP fun l =>
                ((s.cells.get l).captures s.now ((s.pin l).level (levels.getLsbD l.val))).isSome)) }
      ∧ t.health.score = s.health.score ∧ t.health.faults = s.health.faults ∧ t.health.overruns = s.health.overruns
      ∧ t.health.syncFaults = s.health.syncFaults ∧ t.outside = { s.outside with lines := levels }
      ∧ t.now = s.now ∧ t.pending = s.pending

/-- R26 to R29: what a cell captures at a tick, and how its window moves: a matching edge of a SENSE line before the close tick
is captured, captures made goes up and captures left down by one, and the window closes at its last capture. -/
def Obligations.WindowCapturesMatchingEdges : Prop :=
  ∀ (c : Cell) (w : Window) (now : Nat) (sample : Bool), c.window = some w → c.settings.direction = .sense →
    let edge := edgeBetween c.prevSample sample
    let matching := now < w.closeTick ∧
      ((edge = some .rise ∧ (w.edge = .rise ∨ w.edge = .both)) ∨ (edge = some .fall ∧ (w.edge = .fall ∨ w.edge = .both)))
    (matching → c.captures now sample = edge.map (fun e => (e, w))
        ∧ (c.afterSample now sample).window =
            (if w.left ≤ 1 then none else some { w with left := w.left - 1, made := w.made + 1 }))
      ∧ (¬ matching → c.captures now sample = none ∧ (c.afterSample now sample).window = some w)
      ∧ (c.afterSample now sample).prevSample = some sample
      ∧ (c.afterSample now sample).logical = c.logical ∧ (c.afterSample now sample).settings = c.settings

/-! ## Frame ends -/

/-- R2, R14, R150, R151, R153, R170: a frame end that leaves the engine RUNNING or HELD: the score, the settlement, the counts,
and the next frame. R132, R133: a pass is cut: it goes on as a tail exactly when it has a unit in hand, and RESULT and JOURNAL
are raised exactly when it has earned them. R29, R105: the spot windows report, and at a switch every entry is revalidated
against the new plan. R52, R67: a bank PENDING before this tick becomes CURRENT with its generation and content, and the one
that was CURRENT FREE with generation 0; that a bank which became PENDING at this very tick does not switch is the model's
reading of log 12. The empty previous sample of a line that turns from DRIVE to SENSE is the model's choice of log 7. -/
def Obligations.FrameEndStartsTheNextFrame : Prop :=
  ∀ (c : Instr) (missing : Bool) (s : State), s.FrameEndsBy c missing →
    let r := s.endingSettlement missing
    r.engine = .running ∨ r.engine = .held →
    ∃ t, exec c s = .next t
      ∧ t.control.engine = r.engine
      ∧ t.control.pending = (if r.ended = none then s.control.pending else .none)
      ∧ t.control.readback = (match r.ended with
          | some o => { last := s.control.pending.code, outcome := o, reason := .none, planReason := .none }
          | none => s.control.readback)
      ∧ t.control.has .command = (s.control.has .command || r.ended.isSome)
      ∧ t.control.has .health = (s.control.has .health || decide (r.cause = some .health))
      ∧ s.FrameStarted t r.record (s.control.engine == .held && r.engine == .running)
          (s.timer.frameTime.getD s.timer.lastLength)
      ∧ t.health.score = s.endingScore missing
      ∧ t.health.syncFaults = s.health.syncFaults + (if missing then 1 else 0)
      ∧ t.health.overruns = s.health.overruns + (if s.service.activity = .pass ∨ s.service.owed = true then 1 else 0)
      ∧ (s.service.activity ≠ .pass → s.control.RaisesOnly t.control [.command, .health, .plan])
      ∧ s.control.RaisesOnly t.control [.command, .health, .plan, .result, .journal]
      ∧ t.control.setup = s.control.setup
      ∧ (∀ l, (t.cells.get l).window = none)
      ∧ (∃ es, s.WindowsReport es
          ∧ t.queue =
              { s.queue with
                entries := if s.store.switches then es.map (Entry.revalidate t.store.plan) else es
                runList := [], action := none })
      ∧ s.PassCut t
      ∧ (s.service.activity = .pass → s.CutInHand → t.service.activity = .tail)
      ∧ (s.service.activity = .pass → ¬ s.CutInHand → t.service.activity = .none)
      ∧ (s.service.activity ≠ .pass → t.service.activity = s.service.activity)
      ∧ t.service.closingOwed = s.service.closingOwed
      ∧ t.service.owed = false ∧ t.service.activity ≠ .pass ∧ t.service.hostControl = s.service.hostControl
      ∧ t.writer = s.writer ∧ s.PortGoesOn t
      ∧ t.now = s.now ∧ t.pending = s.pending

/-- R14, R35, R55, R66, R136, R166: a frame end at which a STOP completes: the engine is ARMED with the STATE record of the
ending frame and its length, and no frame starts. A pass is cut as at any frame end; the closing write waits, and is owed
behind a tail or a status write in progress (R136). That a read of the Loader which only waits at the port is marked STALE like
an outstanding one is the model's reading of log 9. -/
def Obligations.FrameEndCompletesStop : Prop :=
  ∀ (c : Instr) (missing : Bool) (s : State), s.FrameEndsBy c missing →
    let r := s.endingSettlement missing
    r.engine = .armed → s.control.engine = .running ∨ s.control.engine = .held →
    ∃ t, exec c s = .next t
      ∧ t.control.engine = .armed ∧ t.control.pending = .none
      ∧ t.control.readback = { last := 3, outcome := .done, reason := .none, planReason := .none }
      ∧ t.control.has .command = true ∧ t.control.has .health = s.control.has .health
      ∧ t.timer.frameTime = none ∧ t.timer.phase = .none ∧ t.timer.acceptance = .off
      ∧ t.timer.current = s.timer.current ∧ t.timer.nextFrame = s.timer.nextFrame
      ∧ t.timer.lastLength = s.timer.frameTime.getD s.timer.lastLength ∧ t.timer.syncOut = false
      ∧ t.staging = s.staging.offerAll s.journalWriteOutstanding [.state .armed .command]
          (s.timer.current, s.timer.frameTime.getD s.timer.lastLength)
      ∧ (∀ l, (t.cells.get l).settings = (s.cells.get l).settings)
      ∧ (∀ l, (s.cells.get l).settings.direction = .drive →
          (t.cells.get l).logical = (s.cells.get l).settings.rest)
      ∧ (s.store.bank0.state = .filling → t.store.bank0 = .free)
      ∧ (s.store.bank1.state = .filling → t.store.bank1 = .free)
      ∧ (s.store.bank0.state ≠ .filling → t.store.bank0 = s.store.bank0)
      ∧ (s.store.bank1.state ≠ .filling → t.store.bank1 = s.store.bank1)
      ∧ t.static = { s.static with active := false, next := 0 }
      ∧ t.loader = { s.loader with filling := false, generation := 0, readOut := s.loader.readOut.giveUp }
      ∧ s.PassCut t
      ∧ (s.service.activity = .none ∨ s.service.activity = .closingWait → t.service.activity = .closingWait)
      ∧ (s.service.activity = .pass → ¬ s.CutInHand → t.service.activity = .closingWait)
      ∧ (s.service.activity = .pass → s.CutInHand → t.service.activity = .tail ∧ t.service.closingOwed = true)
      ∧ (s.service.activity = .tail ∨ s.service.activity = .statusWrite →
          t.service.activity = s.service.activity ∧ t.service.closingOwed = true)
      ∧ t.health.score = s.endingScore missing ∧ t.health.faults = .empty
      ∧ (∀ l, (t.cells.get l).window = none ∧ (t.cells.get l).running = (s.cells.get l).running)
      ∧ s.control.RaisesOnly t.control [.command, .result, .journal] ∧ t.control.setup = s.control.setup
      ∧ s.WindowsReport t.queue.entries
      ∧ t.queue = { s.queue with entries := t.queue.entries, runList := [], nextFree := 0, action := none }
      ∧ t.service.owed = false ∧ t.service.hostControl = s.service.hostControl
      ∧ t.writer = s.writer ∧ s.PortGoesOn t ∧ t.now = s.now ∧ t.pending = s.pending

/-- R14, R111, R120, R134, R147, R154: a frame end with a HALT verdict: HALTED, the HEALTH cause, the STATE record of the
ending frame, a pending command overridden; SERVICE and LOADER leave the port, the writer goes on. RESULT and JOURNAL are
raised exactly when a pass is cut that has earned them (R132). That the Spot Queue keeps its entries is the model's reading of
log 10, that the next free minislot returns to 0 its choice of log 29, that the early-seen flag is cleared its choice of log
24, and what the Service Unit keeps its choice of log 25. -/
def Obligations.FrameEndWithHaltVerdict : Prop :=
  ∀ (c : Instr) (missing : Bool) (s : State), s.FrameEndsBy c missing →
    let r := s.endingSettlement missing
    r.engine = .halted → s.control.engine = .running ∨ s.control.engine = .held →
    ∃ t, exec c s = .next t
      ∧ t.control.engine = .halted ∧ t.control.has .health = true
      ∧ (s.control.pending = .stop ∨ s.control.pending = .resume →
          t.control.pending = .none ∧ t.control.readback =
            { last := s.control.pending.code, outcome := .overridden, reason := .none, planReason := .none })
      ∧ (s.control.pending = .none → t.control.readback = s.control.readback)
      ∧ s.PassCut t
      ∧ t.service =
          { s.service with
            activity := .none, owed := false, closingOwed := false
            unit := t.service.unit, serial := t.service.serial, snapshot := t.service.snapshot }
      ∧ t.timer.acceptance = .off ∧ t.timer.earlySeen = false ∧ t.timer.syncOut = false
      ∧ t.timer.frameTime = none ∧ t.timer.phase = .none ∧ t.timer.current = s.timer.current
      ∧ t.timer.nextFrame = s.timer.nextFrame
      ∧ t.timer.lastLength = s.timer.frameTime.getD s.timer.lastLength
      ∧ t.staging = s.staging.offerAll s.journalWriteOutstanding [.state .halted .health]
          (s.timer.current, s.timer.frameTime.getD s.timer.lastLength)
      ∧ t.writer = s.writer ∧ t.service.activity = .none ∧ t.port.service = none ∧ t.port.loader = none
      ∧ (∀ x, s.port.outstanding = some x → x.requester ≠ .writer →
          t.port.outstanding = some { x with discard := true })
      ∧ (∀ x, s.port.outstanding = some x → x.requester = .writer → t.port.outstanding = some x)
      ∧ t.loader = { s.loader with filling := false, generation := 0, readOut := .none }
      ∧ t.health.score = s.endingScore missing ∧ t.health.faults = .empty
      ∧ (∀ l, (t.cells.get l).window = none ∧ (t.cells.get l).logical = (s.cells.get l).logical
          ∧ (t.cells.get l).settings = (s.cells.get l).settings)
      ∧ (s.store.bank0.state = .filling → t.store.bank0 = .free)
      ∧ (s.store.bank1.state = .filling → t.store.bank1 = .free)
      ∧ t.static = { s.static with active := false, next := 0 }
      ∧ s.control.RaisesOnly t.control [.command, .health, .result, .journal] ∧ t.control.setup = s.control.setup
      ∧ s.WindowsReport t.queue.entries
      ∧ t.queue = { s.queue with entries := t.queue.entries, runList := [], nextFree := 0, action := none }
      ∧ t.service.owed = false ∧ t.service.hostControl = s.service.hostControl
      ∧ s.SamePortRegisters t
      ∧ t.now = s.now ∧ t.pending = s.pending

/-- R151: at every frame end the ending frame is scored from its fault set: an empty set takes one off the score, and never
below 0; any other adds the weights of the kinds present, and never past 255. -/
def Obligations.ScoreLeaksOrAddsWeights : Prop :=
  (∀ (c : Instr) (missing : Bool) (s : State), s.FrameEndsBy c missing →
       ∃ t, exec c s = .next t ∧ t.health.score = scoreAfter s.control.setup s.health.score (s.endingFaults missing))
    ∧ ∀ (u : Setup) (score : Nat) (f : FaultSet),
      (f = { overrun := false, sync := false, bus := false, loss := false } → scoreAfter u score f = score - 1)
        ∧ (f ≠ { overrun := false, sync := false, bus := false, loss := false } →
            scoreAfter u score f =
              min 255 (score + ((if f.overrun then u.overrunWeight else 0) + (if f.sync then u.syncWeight else 0)
                + (if f.bus then u.busWeight else 0) + (if f.loss then u.lossWeight else 0))))
        ∧ (score ≤ 255 → scoreAfter u score f ≤ 255)

/-- R170: every frame end in RUNNING or HELD leaves the engine state, the pending command and the readback as its settlement
says; and the settlement for every state, pending command and verdict that can meet there. -/
def Obligations.SettlementFollowsTheTable : Prop :=
  (∀ (c : Instr) (missing : Bool) (s : State), s.FrameEndsBy c missing →
    s.control.engine = .running ∨ s.control.engine = .held →
    let r := s.endingSettlement missing
    ∃ t, exec c s = .next t
      ∧ t.control.engine = r.engine
      ∧ t.control.pending = (if r.ended = none then s.control.pending else .none)
      ∧ t.control.readback = (match r.ended with
          | some o => { last := s.control.pending.code, outcome := o, reason := .none, planReason := .none }
          | none => s.control.readback))
    ∧ settle .running .none .halt = { engine := .halted, ended := none, cause := some .health }
    ∧ settle .running .none .hold = { engine := .held, ended := none, cause := some .health }
    ∧ settle .running .none .none = { engine := .running, ended := none, cause := none }
    ∧ settle .running .stop .halt = { engine := .halted, ended := some .overridden, cause := some .health }
    ∧ settle .running .stop .hold = { engine := .armed, ended := some .done, cause := some .command }
    ∧ settle .running .stop .none = { engine := .armed, ended := some .done, cause := some .command }
    ∧ settle .held .none .halt = { engine := .halted, ended := none, cause := some .health }
    ∧ settle .held .none .release = { engine := .running, ended := none, cause := some .health }
    ∧ settle .held .none .none = { engine := .held, ended := none, cause := none }
    ∧ settle .held .stop .halt = { engine := .halted, ended := some .overridden, cause := some .health }
    ∧ settle .held .stop .release = { engine := .armed, ended := some .done, cause := some .command }
    ∧ settle .held .stop .none = { engine := .armed, ended := some .done, cause := some .command }
    ∧ settle .held .resume .halt = { engine := .halted, ended := some .overridden, cause := some .health }
    ∧ settle .held .resume .hold = { engine := .held, ended := some .overridden, cause := none }
    ∧ settle .held .resume .release = { engine := .running, ended := some .done, cause := some .command }
    ∧ settle .held .resume .none = { engine := .running, ended := some .done, cause := some .command }

/-- R153: the first of the tests that holds gives the verdict. -/
def Obligations.VerdictFollowsTheTests : Prop :=
  ∀ (u : Setup) (score : Nat) (engine : EngineState) (pending : PendingCommand),
    let haltTest := u.halt ≠ 0 ∧ u.halt ≤ score
    let holdTest := u.hold ≤ score ∧ (engine = .running ∨ (engine = .held ∧ pending = .resume))
    let releaseTest := engine = .held ∧ u.autoResume = true ∧ score ≤ u.resume
    (haltTest → verdict u score engine pending = .halt)
      ∧ (¬ haltTest → holdTest → verdict u score engine pending = .hold)
      ∧ (¬ haltTest → ¬ holdTest → releaseTest → verdict u score engine pending = .release)
      ∧ (¬ haltTest → ¬ holdTest → ¬ releaseTest → verdict u score engine pending = .none)

/-! ## What happens inside a frame -/

/-- The model's choice of log 2: a timed event at a tick at which it is not due has no effect, whether no frame runs, the frame
time is another, or the tick is another. Each clause gives the whole of what makes its event due: R7, R11, R16, R10, R5, R53,
R100, R102, R126, R103, R29, R21, R25, R136, R143. -/
def Obligations.EventsNotDueHaveNoEffect : Prop :=
  ∀ (s : State) (l : Line),
    let g := s.timer.geometry
    (¬ (s.control.setup.mode = .internal ∧ s.timer.frameTime = some g.frameLength) →
        exec .internalFrameEnd s = .next s)
      ∧ (¬ (s.control.setup.mode = .external
            ∧ s.timer.frameTime = some (g.frameLength + s.control.setup.tolerance)) →
        exec .syncMissing s = .next s)
      ∧ (s.timer.syncOut = false ∨ (∀ t, s.timer.frameTime = some t → t < 8) → exec .syncOutPulseEnd s = .next s)
      ∧ (s.timer.acceptance ≠ .earlyZone
            ∨ (∀ t, s.timer.frameTime = some t → t + s.control.setup.tolerance < g.frameLength) →
        exec .syncAcceptanceOpen s = .next s)
      ∧ ((∀ k, k < g.slots → s.timer.frameTime ≠ some (k * g.slotLength)) → exec .slotStart s = .next s)
      ∧ ((∀ a, nextAction s = some a → s.timer.frameTime ≠ some (a.slot * g.slotLength + a.offset)) →
        exec .staticActionStart s = .next s)
      ∧ (s.timer.phase.isStatic = false ∨ g.minislots = 0 ∨ s.timer.frameTime ≠ some (g.slots * g.slotLength) →
        exec .dynamicPhaseStart s = .next s)
      ∧ (s.timer.phase.isDynamic = false
            ∨ (∀ m, m < g.minislots →
                s.timer.frameTime ≠ some (g.slots * g.slotLength + m * g.minislotLength)) →
        exec .minislotStart s = .next s)
      ∧ ((s.timer.phase.isStatic = false ∧ s.timer.phase.isDynamic = false)
            ∨ s.timer.frameTime ≠ some (g.slots * g.slotLength + g.minislots * g.minislotLength) →
        exec .serviceWindowStart s = .next s)
      ∧ ((∀ a, s.queue.action = some a → s.now < a.stop) → exec .spotActionEnd s = .next s)
      ∧ ((∀ w, (s.cells.get l).window = some w → s.now < w.closeTick) → exec (.windowCloseTick l) s = .next s)
      ∧ ((∀ r, (s.cells.get l).running = some r → s.now < r.stop) → exec (.outputActionEnd l) s = .next s)
      ∧ ((∀ start stop p d n,
            (s.cells.get l).running = some { start := start, stop := stop, op := .burst p d n } →
            stop ≤ s.now ∨ ((s.now - start) % p ≠ 0 ∧ (s.now - start) % p ≠ min d p)) →
        exec (.burstPeriodChange l) s = .next s)
      ∧ (s.service.activity ≠ .closingWait
            ∨ (s.staging.records ≠ [] ∧ s.writer.unreleased ≠ s.writer.size.toNat) →
        exec .closingStatusWrite s = .next s)
      ∧ ((∀ x, s.port.outstanding = some x → s.now < x.expiryTick) → exec .timeout s = .next s)

/-- R10, R16, R5: frame time reaches L − T in EARLY_ZONE; the 8 ticks of SYNC_OUT are over; a slot begins. Each moves one item
of the Frame Timer and nothing else. -/
def Obligations.FrameTimerMarksItsInstants : Prop :=
  ∀ (s : State) (time : Nat), s.timer.frameTime = some time →
    (s.timer.acceptance = .earlyZone → s.timer.geometry.frameLength ≤ time + s.control.setup.tolerance →
        exec .syncAcceptanceOpen s = .next { s with timer := { s.timer with acceptance := .opened } })
      ∧ (s.timer.syncOut = true → 8 ≤ time →
        exec .syncOutPulseEnd s = .next { s with timer := { s.timer with syncOut := false } })
      ∧ (∀ k, k < s.timer.geometry.slots → 0 < s.timer.geometry.slotLength → time = k * s.timer.geometry.slotLength →
        exec .slotStart s = .next { s with timer := { s.timer with phase := .static k } })

/-- R41, R53, R54: the Static Action Unit considers the action at its index at its start tick: the index advances; the cell of
its line takes it when the filter passes and, in HELD, when it is no output action; no other cell and no other block changes.
-/
def Obligations.StaticActionIsConsideredAtItsStartTick : Prop :=
  ∀ (s : State) (a : ActionRecord) (op : Operation),
    nextAction s = some a → a.op = some op → a.line.toNat < 16 →
    s.timer.frameTime = some (a.slot * s.timer.geometry.slotLength + a.offset) →
    ∃ t, exec .staticActionStart s = .next t
      ∧ t = { s with static := { s.static with next := s.static.next + 1 }, cells := t.cells }
      ∧ (∀ l : Line, l.val ≠ a.line.toNat → t.cells.get l = s.cells.get l)
      ∧ (∀ l : Line, l.val = a.line.toNat →
          t.cells.get l =
            if s.static.frame.toNat % a.period = a.phase ∧ ¬ (s.control.engine = .held ∧ kindIsOutput a.kind = true) then
              (s.cells.get l).take s.now op (.static a.slot s.static.next)
            else s.cells.get l)

/-- R21 to R23: a LEVEL on a drive line, with an action that ends at the same tick taken first: SET gives 1, CLEAR 0, TOGGLE
the inverse of the level before; it is never a running action, and a line that is not DRIVE does not apply it. -/
def Obligations.LevelSetsClearsOrToggles : Prop :=
  ∀ (c : Cell) (op : LevelOp) (now : Nat) (source : WindowSource),
    let before := if c.running.any (fun r => r.stop ≤ now) then c.settings.rest else c.logical
    (c.settings.direction = .drive →
      (c.take now (.level op) source).logical =
          (match op with
          | .set => true
          | .clear => false
          | .toggle => !before)
        ∧ (c.take now (.level op) source).settings = c.settings
        ∧ (c.take now (.level op) source).window = c.window
        ∧ (op = .set ∧ before = true ∨ op = .clear ∧ before = false →
            (c.take now (.level op) source).logical = before)
        ∧ (c.take now (.level op) source).running =
            (if c.running.any (fun r => r.stop ≤ now) then none else c.running))
      ∧ (c.settings.direction ≠ .drive → c.take now (.level op) source = c)
      ∧ (Operation.level op).duration = 1

/-- R21, R24: a PULSE of width w on a drive line gives NOT rest level at its start tick and runs until start plus w; at its end
the level is the rest level. -/
def Obligations.PulseLeavesRestAndReturns : Prop :=
  ∀ (c : Cell) (w now : Nat) (source : WindowSource), c.settings.direction = .drive →
    (c.take now (.pulse w) source).logical = !c.settings.rest
      ∧ (c.take now (.pulse w) source).running = some { start := now, stop := now + w, op := .pulse w }
      ∧ ((c.take now (.pulse w) source).endDue (now + w)).logical = c.settings.rest
      ∧ ((c.take now (.pulse w) source).endDue (now + w)).running = none
      ∧ (∀ t, t < now + w → (c.take now (.pulse w) source).endDue t = c.take now (.pulse w) source)
      ∧ (∀ engine, c.logical = (!c.settings.rest) → (c.take now (.pulse w) source).pin engine = c.pin engine)

/-- R25: a BURST of period p, duty d and count n on a drive line: in every period, NOT rest level for the first min(d, p) ticks
and rest level after, at the change ticks inside it, and rest level at its end. -/
def Obligations.BurstFollowsItsPeriods : Prop :=
  ∀ (c : Cell) (p d n now : Nat) (source : WindowSource), c.settings.direction = .drive → 0 < p → 0 < n →
    let b := c.take now (.burst p d n) source
    b.running = some { start := now, stop := now + p * n, op := .burst p d n }
      ∧ b.logical = (if 0 < d then !c.settings.rest else c.settings.rest)
      ∧ (∀ i k, i < n → k < p → (k = 0 ∨ k = d) →
          (b.burstChange (now + i * p + k)).logical = if k < d then !c.settings.rest else c.settings.rest)
      ∧ (b.endDue (now + p * n)).logical = c.settings.rest ∧ (b.endDue (now + p * n)).running = none

/-- R27: a WINDOW on a SENSE line opens a capture window until its close tick with the captures it may make; on any other line
it opens nothing. -/
def Obligations.WindowOpensOnSenseLinesAlone : Prop :=
  ∀ (c : Cell) (w : Nat) (edge : EdgeSelect) (most now : Nat) (source : WindowSource),
    (c.settings.direction = .sense →
        (c.take now (.window w edge most) source) =
          { c with window := some { edge := edge, left := most, made := 0, closeTick := now + w, source := source } })
      ∧ (c.settings.direction ≠ .sense → (c.take now (.window w edge most) source).window = c.window)

/-- R21, R25, R29: the ends and changes on one line. An output action whose end tick has come gives the rest level; a burst
changes to its level at a tick at which a period starts or its duty ends; a window whose close tick has come closes, and a
spot window sets the captures made of its entry. The cell of the line alone changes, and of the queue that one field of that
one entry. -/
def Obligations.LineEventsTouchOneCell : Prop :=
  ∀ (s : State) (l : Line),
    let c := s.cells.get l
    (∀ r, c.running = some r → r.stop ≤ s.now →
        ∃ t, exec (.outputActionEnd l) s = .next t
          ∧ t = { s with cells := t.cells }
          ∧ t.cells.get l = { c with logical := c.settings.rest, running := none }
          ∧ ∀ k, k ≠ l → t.cells.get k = s.cells.get k)
      ∧ (∀ start stop p d n, c.running = some { start := start, stop := stop, op := .burst p d n } → s.now < stop →
        (s.now - start) % p = 0 ∨ (s.now - start) % p = min d p →
        ∃ t, exec (.burstPeriodChange l) s = .next t
          ∧ t = { s with cells := t.cells }
          ∧ t.cells.get l =
              { c with logical := if (s.now - start) % p < min d p then !c.settings.rest else c.settings.rest }
          ∧ ∀ k, k ≠ l → t.cells.get k = s.cells.get k)
      ∧ (∀ w, c.window = some w → w.closeTick ≤ s.now →
        ∃ t, exec (.windowCloseTick l) s = .next t
          ∧ t = { s with cells := t.cells, queue := t.queue }
          ∧ t.cells.get l = { c with window := none } ∧ (∀ k, k ≠ l → t.cells.get k = s.cells.get k)
          ∧ ((∀ board tag, w.source ≠ .spot board tag) → t.queue = s.queue)
          ∧ (∀ board tag, w.source = .spot board tag →
              t.queue = { s.queue with
                entries := s.queue.entries.map fun e =>
                  if e.board = board then { e with result := { e.result with captures := w.made } } else e }))

/-! ## The dynamic phase -/

/-- R98 to R101: the dynamic-phase start changes the phase position and the queue alone. Exactly the WAITING entries that are
due and past their deadline expire; then the walk goes through the entries in queue order from minislot 0. An entry that is
considered (WAITING, due, and in HELD of no output kind) and fits at the next free minislot is placed there, and the next free
minislot moves past it; one that does not fit ends the walk; any other is passed over. The run list and the next free minislot
are those the walk leaves. -/
def Obligations.DynamicPhaseStartExpiresAndPlaces : Prop :=
  (∀ s : State, s.timer.phase.isStatic = true → 0 < s.timer.geometry.minislots →
       s.timer.frameTime = some (s.timer.geometry.slots * s.timer.geometry.slotLength) →
       let r := placeWalk s.timer.geometry s.timer.current (s.control.engine == .held) 0
         (s.queue.entries.map (Entry.expire s.timer.current))
       exec .dynamicPhaseStart s = .next
         { s with
           timer := { s.timer with phase := .dynamic 0 }
           queue := { s.queue with entries := r.1, runList := r.2.1, nextFree := r.2.2 } })
    ∧ (∀ (e : Entry) (frame : Word),
       let overdue := e.status = .waiting ∧ (frame - e.earliest).toNat < 2147483648 ∧ e.request.deadline ≠ 0
         ∧ e.request.deadline.toNat < (frame - e.earliest).toNat
       (overdue → e.expire frame =
           { e with status := .finished, ending := .expired,
                    result := { e.result with detail := .none, afterSwitch := false } })
         ∧ (¬ overdue → e.expire frame = e))
    ∧ (∀ (g : Geometry) (frame : Word) (held : Bool) (free : Nat) (e : Entry) (rest : List Entry),
       let length := e.request.minislots g
       let considered := e.status = .waiting ∧ (frame - e.earliest).toNat < 2147483648
         ∧ ¬ (held = true ∧ kindIsOutput e.request.kind = true)
       let fits := free ≤ g.latestStart ∧ free + length ≤ g.minislots
       (considered → fits → placeWalk g frame held free (e :: rest) =
           (let r := placeWalk g frame held (free + length) rest
           ({ e with status := .placed, startMinislot := some free } :: r.1,
             { board := e.board, minislot := free } :: r.2.1, r.2.2)))
         ∧ (considered → ¬ fits → placeWalk g frame held free (e :: rest) = (e :: rest, [], free))
         ∧ (¬ considered → placeWalk g frame held free (e :: rest) =
           (let r := placeWalk g frame held free rest
           (e :: r.1, r.2.1, r.2.2))))
    ∧ (∀ (g : Geometry) (frame : Word) (held : Bool) (free : Nat), placeWalk g frame held free [] = ([], [], free))

/-- R100, R101: every placed entry starts at a minislot at most the latest start and ends within NM, and the placed entries lie
one after another without a shared minislot; in HELD no entry of an output kind is placed. -/
def Obligations.PlacementKeepsMinislotsApart : Prop :=
  (∀ (g : Geometry) (frame : Word) (held : Bool) (first : Nat) (es : List Entry),
       let r := placeWalk g frame held first es
       let length := fun (e : Entry) => e.request.minislots g
       (∀ e ∈ r.1, e.status = .placed → e ∉ es →
           ∃ m, e.startMinislot = some m ∧ first ≤ m ∧ m ≤ g.latestStart ∧ m + length e ≤ g.minislots)
         ∧ r.2.1.Pairwise (fun a b => a.minislot < b.minislot)
         ∧ (∀ a b, a ∈ r.1 → b ∈ r.1 → a ∉ es → b ∉ es → ∀ m n, a.startMinislot = some m → b.startMinislot = some n →
             m < n → m + length a ≤ n)
         ∧ r.1.map Entry.board = es.map Entry.board)
    ∧ (∀ (g : Geometry) (frame : Word) (first : Nat) (es : List Entry),
       (∀ e ∈ es, e.status ≠ .placed) →
       ∀ e ∈ (placeWalk g frame true first es).1, e.status = .placed → kindIsOutput e.request.kind = false)

/-- R5, R30, R102, R103: at the start of a minislot, with no action to finish, the entry placed there becomes EXECUTING with
its start frame and time, its action is under way, and a MARK offers its record, whose loss reports CAPTURE_LOSS (R113). With
no entry placed there only the position moves. An action whose end tick has come is finished first, as at its own end, and then
the minislot starts. -/
def Obligations.MinislotStartRunsThePlacedEntry : Prop :=
  (∀ (s : State) (m : Nat), s.timer.phase.isDynamic = true → m < s.timer.geometry.minislots →
    0 < s.timer.geometry.minislotLength →
    s.timer.frameTime = some (s.timer.geometry.slots * s.timer.geometry.slotLength + m * s.timer.geometry.minislotLength) →
    (∀ a, s.queue.action = some a → s.now < a.stop) →
    (s.queue.startingAt m = none →
        exec .minislotStart s = .next { s with timer := { s.timer with phase := .dynamic m } })
      ∧ (∀ e op, s.queue.startingAt m = some e → e.request.op = some op →
        ∃ t, exec .minislotStart s = .next t
          ∧ t.timer = { s.timer with phase := .dynamic m }
          ∧ t.queue =
              { s.queue with
                action := some { board := e.board, start := s.now, stop := s.now + op.duration }
                entries := s.queue.entries.map fun x =>
                  if x.board = e.board then
                    { x with
                      status := .executing
                      result := { x.result with
                        startFrame := s.timer.current
                        startTime := s.timer.geometry.slots * s.timer.geometry.slotLength
                          + m * s.timer.geometry.minislotLength } }
                  else x }
          ∧ (op = .mark → t.cells = s.cells ∧ t.staging = s.staging.offerAll s.journalWriteOutstanding [.mark e.tag e.board] (stamp s))
          ∧ (op ≠ .mark → t.staging = s.staging ∧ t.health = s.health
              ∧ t.cells.get (lineOf e.request.line) =
                  (s.cells.get (lineOf e.request.line)).take s.now op (.spot e.board e.tag)
              ∧ ∀ k, k ≠ lineOf e.request.line → t.cells.get k = s.cells.get k)
          ∧ t.control = s.control ∧ t.store = s.store ∧ t.static = s.static ∧ t.loader = s.loader
          ∧ (op = .mark → t.health =
              { s.health with faultsNow := { s.health.faultsNow with
                  loss := s.health.faultsNow.loss || s.ReportsLoss 1 } })
          ∧ t.writer = s.writer ∧ s.service.SameWork t.service ∧ s.PortGoesOn t ∧ s.SameSurroundings t))
    ∧ ∀ (s : State) (m : Nat) (a : SpotAction), s.timer.phase.isDynamic = true → m < s.timer.geometry.minislots →
      0 < s.timer.geometry.minislotLength →
      s.timer.frameTime =
        some (s.timer.geometry.slots * s.timer.geometry.slotLength + m * s.timer.geometry.minislotLength) →
      s.queue.action = some a → a.stop ≤ s.now →
      ∃ u t, exec .spotActionEnd s = .next u ∧ u.queue.action = none ∧ exec .minislotStart u = .next t
        ∧ exec .minislotStart s = .next t

/-- R29, R103: at the end tick of the spot action its entry is FINISHED with outcome DONE and detail NONE, and its window, when
its close tick has come, closes and gives the entry its captures made. Every other entry, window, level and sample stays. -/
def Obligations.SpotActionEndFinishesTheEntry : Prop :=
  ∀ (s : State) (a : SpotAction), s.queue.action = some a → a.stop ≤ s.now →
    let closes := fun (l : Line) (w : Window) =>
      (s.cells.get l).window = some w ∧ w.closeTick ≤ s.now ∧ ∃ tag, w.source = .spot a.board tag
    let finished := fun (captures : Entry → Nat) =>
      s.queue.entries.map fun e =>
        if e.board = a.board then
          { e with
            status := .finished, ending := .done
            result := { e.result with detail := .none, afterSwitch := false, captures := captures e } }
        else e
    ∃ t, exec .spotActionEnd s = .next t
      ∧ t = { s with cells := t.cells, queue := t.queue }
      ∧ t.queue = { s.queue with action := none, entries := t.queue.entries }
      ∧ ((∀ l w, ¬ closes l w) → t.queue.entries = finished fun e => e.result.captures)
      ∧ (∀ l w, closes l w → (∀ k v, closes k v → k = l) → t.queue.entries = finished fun _ => w.made)
      ∧ (∃ captures, t.queue.entries = finished captures)
      ∧ (∀ l w, closes l w → t.cells.get l = { s.cells.get l with window := none })
      ∧ (∀ l, (∀ w, ¬ closes l w) → t.cells.get l = s.cells.get l)

/-- R105: at a switch a WAITING entry whose kind does not suit its line, or that is too long, is REJECTED with the after-switch
flag; every other entry stays as it is. -/
def Obligations.RevalidationRejectsUnsuitedEntries : Prop :=
  ∀ (plan : List Byte) (e : Entry),
    let g := (planHeader plan).geometry
    let d := (planSettings plan (lineOf e.request.line)).direction
    let mismatch := (kindIsOutput e.request.kind = true ∧ d ≠ .drive) ∨ (kindIsWindow e.request.kind = true ∧ d ≠ .sense)
    let long := g.minislots = 0 ∨ g.minislots < e.request.minislots g
    (e.status = .waiting → mismatch → e.revalidate plan =
        { e with status := .finished, ending := .rejected,
                 result := { e.result with detail := .lineMode, afterSwitch := true } })
      ∧ (e.status = .waiting → ¬ mismatch → long → e.revalidate plan =
        { e with status := .finished, ending := .rejected,
                 result := { e.result with detail := .tooLong, afterSwitch := true } })
      ∧ (e.status ≠ .waiting ∨ (¬ mismatch ∧ ¬ long) → e.revalidate plan = e)

/-! ## The service pass and the closing write -/

/-- R126: at the service-window start a pass begins with its read of step A when nothing is in progress, and is owed while a
tail or a closing write goes on. -/
def Obligations.ServiceWindowStartsOrOwesAPass : Prop :=
  ∀ s : State, s.timer.phase.isStatic = true ∨ s.timer.phase.isDynamic = true →
    s.timer.frameTime = some (s.timer.geometry.slots * s.timer.geometry.slotLength
      + s.timer.geometry.minislots * s.timer.geometry.minislotLength) →
    (s.service.activity = .none → ∃ t, exec .serviceWindowStart s = .next t
        ∧ t.timer = { s.timer with phase := .service }
        ∧ t.service.activity = .pass ∧ t.service.step = .a ∧ t.service.backlog = false ∧ t.service.junk = false
        ∧ t.service.releaseBad = false ∧ t.service.noted = false ∧ t.service.boardPos = 0 ∧ t.service.postList = []
        ∧ t.service.owed = false ∧ t.service.passFrame = s.timer.current
        ∧ t.service.hostControl = s.service.hostControl
        ∧ t.Asks .service .stepARead (s.control.xbase + 64) 32
        ∧ t.control = s.control ∧ t.cells = s.cells ∧ t.store = s.store ∧ t.static = s.static ∧ t.loader = s.loader
        ∧ t.queue = s.queue ∧ t.staging = s.staging ∧ t.writer = s.writer ∧ t.health = s.health ∧ s.PortGoesOn t
        ∧ s.SameSurroundings t)
      ∧ (s.service.activity = .tail ∨ s.service.activity = .statusWrite →
        exec .serviceWindowStart s = .next
          { s with timer := { s.timer with phase := .service }, service := { s.service with owed := true } })

/-- R136: the closing write begins once staging is empty or the journal is full: the 32-byte first write is asked for. -/
def Obligations.ClosingWriteBeginsWhenDrained : Prop :=
  ∀ s : State, s.service.activity = .closingWait →
    s.staging.records = [] ∨ s.writer.unreleased = s.writer.size.toNat →
    ∃ t, exec .closingStatusWrite s = .next t
      ∧ t.service.activity = .statusWrite ∧ t.service.step = .d
      ∧ t.Asks .service .statusFirst (s.control.xbase + 160) 32
      ∧ t.control = s.control ∧ s.SameLinesAndPlans t ∧ t.loader = s.loader ∧ t.staging = s.staging
      ∧ t.writer = s.writer ∧ t.health = s.health ∧ s.PortGoesOn t ∧ s.SameSurroundings t

/-! ## The ends of transfers -/

/-- R125, R148, R161, R163, R164: the setup read returned. A check fails: LOAD fails with the reason of the first check failed,
the engine is IDLE, the setup in force as it was, and the journal base, J and the timeout set by the checks passed before it.
Every check passes: the setup is being loaded, the writer has the journal base and J, the timeout is in force, and the 32-byte
read of host control is asked for. The last clauses give the five checks in their order, with the fields at their places in the
64 bytes (R175); that the journal and the exchange area are compared as plain numbers is the model's reading of log 13. -/
def Obligations.SetupReadEndsLoadOrGoesOn : Prop :=
  (∀ (data : Vector Byte 64) (s : State) (reason : CmdReason), s.Carries .setupRead →
       setupFailure s.control.xbase (readSetup data.toList) = some reason →
       ∃ t, exec (.setupReadDone data) s = .next t
         ∧ t.control =
             { s.control with
               engine := .idle, pending := .none, stage := .none, loading := none
               readback := { last := 1, outcome := .failed, reason := reason, planReason := .none }
               cause := s.control.cause ||| 0b010000#6 }
         ∧ s.SameLinesAndPlans t ∧ t.loader = s.loader ∧ t.staging = s.staging ∧ t.health = s.health
         ∧ s.service.SameWork t.service ∧ t.port.busFaults = s.port.busFaults
         ∧ t.writer =
             (if reason = .setupBoard ∨ reason = .setupJournal then s.writer
             else { s.writer with base := quad data.toList 0, size := word data.toList 8 })
         ∧ t.port.timeout =
             (if reason = .setupHealth ∨ reason = .setupSync then (half data.toList 16).toNat else s.port.timeout)
         ∧ s.SameSurroundings t)
    ∧ (∀ (data : Vector Byte 64) (s : State), s.Carries .setupRead →
       setupFailure s.control.xbase (readSetup data.toList) = none →
       ∃ t, exec (.setupReadDone data) s = .next t
         ∧ t.control =
             { s.control with
               stage := .hostRead
               loading := some
                 { journalBase := quad data.toList 0, journalSize := word data.toList 8
                   boardCount := (byteAt data.toList 12).toNat
                   mode := if byteAt data.toList 13 = 1 then .external else .internal
                   activeEdge := if byteAt data.toList 14 = 1 then .fall else .rise
                   autoResume := byteAt data.toList 15 == 1, timeout := (half data.toList 16).toNat
                   tolerance := if byteAt data.toList 13 = 1 then (half data.toList 18).toNat else 0
                   overrunWeight := (byteAt data.toList 20).toNat, syncWeight := (byteAt data.toList 21).toNat
                   busWeight := (byteAt data.toList 22).toNat, lossWeight := (byteAt data.toList 23).toNat
                   hold := (byteAt data.toList 24).toNat, halt := (byteAt data.toList 25).toNat
                   resume := (byteAt data.toList 26).toNat } }
         ∧ t.writer = { s.writer with base := quad data.toList 0, size := word data.toList 8 }
         ∧ t.port.timeout = (half data.toList 16).toNat ∧ t.port.busFaults = s.port.busFaults
         ∧ t.Asks .service .hostControlRead (s.control.xbase + 64) 32
         ∧ s.SameLinesAndPlans t ∧ t.loader = s.loader ∧ t.staging = s.staging ∧ t.health = s.health
         ∧ s.service.SameWork t.service ∧ s.SameSurroundings t)
    ∧ (∀ (xbase : Addr) (bs : List Byte),
       let failure := setupFailure xbase (readSetup bs)
       let b := (byteAt bs 12).toNat
       let base := (quad bs 0).toNat
       let j := (word bs 8).toNat
       let boardOk := 1 ≤ b ∧ b ≤ 32
       let journalOk := base ≠ 0 ∧ base % 32 = 0 ∧ (∃ k, 4 ≤ k ∧ k ≤ 12 ∧ j = 2 ^ k) ∧ base + 32 * j ≤ 2 ^ 64
         ∧ (base + 32 * j ≤ xbase.toNat ∨ xbase.toNat + 192 + 48 * b ≤ base)
       let timeoutOk := 64 ≤ (half bs 16).toNat
       let healthOk := (∀ o, 20 ≤ o → o ≤ 23 → (byteAt bs o).toNat ≤ 15) ∧ byteAt bs 24 ≠ 0
         ∧ (byteAt bs 25 = 0 ∨ (byteAt bs 24).toNat < (byteAt bs 25).toNat)
         ∧ (byteAt bs 26).toNat < (byteAt bs 24).toNat ∧ (byteAt bs 15 = 0 ∨ byteAt bs 15 = 1)
       let syncOk := (byteAt bs 13 = 0 ∨ byteAt bs 13 = 1) ∧ (byteAt bs 14 = 0 ∨ byteAt bs 14 = 1)
       (¬ boardOk → failure = some .setupBoard)
         ∧ (boardOk → ¬ journalOk → failure = some .setupJournal)
         ∧ (boardOk → journalOk → ¬ timeoutOk → failure = some .setupTimeout)
         ∧ (boardOk → journalOk → timeoutOk → ¬ healthOk → failure = some .setupHealth)
         ∧ (boardOk → journalOk → timeoutOk → healthOk → ¬ syncOk → failure = some .setupSync)
         ∧ (boardOk → journalOk → timeoutOk → healthOk → syncOk → failure = none))

/-- R59, R71, R125, R138, R163, R164: LOAD's host control returned: W, Rl and the watermark are set from it; a generation of 0
fails LOAD with NO_PLAN; an aligned plan address starts the initial load into bank 0 with the read of the 32-byte header, and
any other fails LOAD with PLAN_REJECTED and BAD_FORMAT. -/
def Obligations.LoadHostControlStartsTheInitialLoad : Prop :=
  ∀ (data : Vector Byte 32) (s : State), s.Carries .hostControlRead → s.loader.readOut = .none →
    s.control.engine = .loading → s.store.bank0.state ≠ .current →
    let g := word data.toList 8
    let a := quad data.toList 0
    ∃ t, exec (.loadHostControlReadDone data) s = .next t
      ∧ t.service.hostControl =
          { planAddress := a, planGeneration := g, release := word data.toList 12, watermark := word data.toList 16 }
      ∧ t.writer = { s.writer with
          written := word data.toList 12, released := word data.toList 12, watermark := word data.toList 16 }
      ∧ (g = 0 → t.control.engine = .idle ∧ t.control.pending = .none ∧ t.loader = s.loader ∧ t.store = s.store
          ∧ t.control.readback = { last := 1, outcome := .failed, reason := .noPlan, planReason := .none })
      ∧ (g ≠ 0 → a.toNat % 8 = 0 →
          t.control = { s.control with stage := .plan }
            ∧ t.store.bank0 = { state := .filling, generation := g, content := [] } ∧ t.store.bank1 = s.store.bank1
            ∧ t.loader.filling = true ∧ t.loader.generation = g ∧ t.loader.address = a ∧ t.loader.position = 0
            ∧ t.loader.total = none ∧ t.loader.crc = 0xFFFFFFFF#32
            ∧ t.loader.status = { generation := g, status := .filling, detail := .none }
            ∧ t.Asks .service .planRead (a + 0) 32)
      ∧ (g ≠ 0 → a.toNat % 8 ≠ 0 →
          t.control.engine = .idle ∧ t.control.pending = .none
            ∧ t.control.readback = { last := 1, outcome := .failed, reason := .planRejected, planReason := .badFormat }
            ∧ t.control.has .plan = true ∧ t.store.bank0 = .free ∧ t.loader.filling = false
            ∧ t.loader.status = { generation := g, status := .rejected, detail := .badFormat }
            ∧ t.loader.lastRefused = g)
      ∧ t.timer = s.timer ∧ t.cells = s.cells ∧ t.static = s.static ∧ t.queue = s.queue ∧ t.staging = s.staging
      ∧ t.health = s.health ∧ t.control.setup = s.control.setup
      ∧ (s.store.bank1.state ≠ .filling → t.store.bank1 = s.store.bank1)
      ∧ s.control.RaisesOnly t.control [.command, .plan] ∧ s.SamePortRegisters t
      ∧ s.SameSurroundings t

/-- R57, R58, R63, R64, R123, R127: step A's read returned: the host-control values are its four values, the watermark is
handed, and the release count is accepted exactly when it moves neither back past Rl nor forward past W, else RELEASE_BAD is
set. The plan address and generation are handed to the Plan Loader, which starts a load, overtakes one or does nothing. R128,
R129: in a pass step B begins with the FINISHED entries in ascending take sequence, and with none step C. A tail ends. That a
read of the Loader which only waits at the port is marked STALE like an outstanding one is the model's reading of log 9. -/
def Obligations.StepAHandsReleaseAndWatermark : Prop :=
  ∀ (data : Vector Byte 32) (s : State), s.Carries .stepARead →
    s.service.activity = .pass ∨ s.service.activity = .tail →
    let r := word data.toList 12
    let accepted := (r - s.writer.released).toNat ≤ (s.writer.written - s.writer.released).toNat
    ∃ t, exec (.stepAReadDone data) s = .next t
      ∧ t.service.hostControl =
          { planAddress := quad data.toList 0, planGeneration := word data.toList 8, release := r,
            watermark := word data.toList 16 }
      ∧ t.writer = { s.writer with
          released := if accepted then r else s.writer.released, watermark := word data.toList 16 }
      ∧ (s.service.activity = .pass → t.service.releaseBad = (s.service.releaseBad || decide (¬ accepted)))
      ∧ (s.service.activity = .pass → t.service.step ≠ .a)
      ∧ (s.service.activity = .pass → s.PostingGoesOn t s.queue s.queue.finishedByTake)
      ∧ s.PlanHandedOver t (quad data.toList 0) (word data.toList 8)
      ∧ s.TailEnds t
      ∧ t.timer = s.timer ∧ t.cells = s.cells ∧ t.static = s.static ∧ t.queue = s.queue ∧ t.staging = s.staging
      ∧ t.health = s.health ∧ t.control.engine = s.control.engine ∧ t.control.setup = s.control.setup
      ∧ t.control.readback = s.control.readback ∧ s.control.RaisesOnly t.control [.plan] ∧ s.SamePortRegisters t
      ∧ s.SameSurroundings t

/-- R43 to R49, R59, R61, R62, R70: a plan read of the load in progress returned: its bytes join the bank and the CRC, and the
position advances. The header read ends the load REJECTED when the header fails BAD_FORMAT, and else gives the total length.
Short of the total length a further read is asked for, by SERVICE in LOADING and else by LOADER. At the total length the load
ends PENDING in a run when the plan passes every check, and else REJECTED with the reason of the first check failed and the
PLAN cause. R71, R163, R164: in LOADING a plan that passes makes its bank CURRENT, and LOAD's status write is asked for; one
that fails a check fails LOAD with PLAN_REJECTED and the check's reason. R63: a STALE read gives no data, and the first read of
the load in progress is asked for. The last clauses give checks 2 to 10 in their order. A read of n bytes returns the first n
bytes of the operand (the model's choice of log 16). -/
def Obligations.PlanReadAdvancesOrEndsTheLoad : Prop :=
  (∀ (data : Vector Byte 64) (s : State) (x : Transfer) (u : Setup), s.port.outstanding = some x → x.kind = .planRead →
    x.discard = false → s.loader.readOut = .currentLoad → s.loader.filling = true →
    s.control.engine = .running ∨ s.control.engine = .held
      ∨ (s.control.engine = .loading ∧ s.control.loading = some u) →
    let initial := s.control.engine = .loading
    let tolerance := if initial then u.tolerance else s.control.setup.tolerance
    let bytes := data.toList.take x.length
    let position := s.loader.position + bytes.length
    let crc := crcBytes s.loader.crc
      (if s.loader.position = 0 then bytes.take 8 ++ [0, 0, 0, 0] ++ bytes.drop 12 else bytes)
    let filled := (s.store.take bytes).fillingContent
    let badFormat := (byteAt filled 0).toNat ≠ 1 ∨ (word filled 24).toNat ≠ 160 + 16 * (half filled 2).toNat
      ∨ word filled 4 ≠ s.loader.generation
    let goesOn := fun (t : State) (total : Nat) =>
      t.loader = { s.loader with crc := crc, position := position, total := some total, readOut := .currentLoad }
        ∧ t.store = s.store.take bytes ∧ t.control = s.control ∧ s.service.SameWork t.service
        ∧ t.Asks (if initial then .service else .loader) .planRead (s.loader.address + BitVec.ofNat 64 position)
            (min 64 (total - position))
    let rejected := fun (t : State) (reason : PlanDetail) =>
      t.loader =
          { s.loader with
            crc := crc, position := position, readOut := .none, filling := false, generation := 0
            lastRefused := s.loader.generation, posted := false
            status := { generation := s.loader.generation, status := .rejected, detail := reason } }
        ∧ t.control =
            (if initial then
              { s.control with
                engine := .idle, pending := .none, stage := .none, loading := none
                readback := { last := 1, outcome := .failed, reason := .planRejected, planReason := reason }
                cause := s.control.cause ||| 0b010100#6 }
            else { s.control with cause := s.control.cause ||| 0b000100#6 })
        ∧ s.service.SameWork t.service
        ∧ t.store =
            { s.store with
              bank0 := if s.store.bank0.state = .filling then .free else s.store.bank0
              bank1 := if s.store.bank1.state = .filling then .free else s.store.bank1 }
    let passed := fun (t : State) =>
      t.loader =
          { s.loader with
            crc := crc, position := position, readOut := .none, filling := false, generation := 0, posted := false
            status := { generation := s.loader.generation, status := if initial then .current else .pending, detail := .none } }
        ∧ t.control =
            (if initial then { s.control with stage := .statusWrite, cause := s.control.cause ||| 0b000100#6 }
            else s.control)
        ∧ (initial → Service.SameWork { s.service with activity := .statusWrite, step := .d } t.service
            ∧ t.Asks .service .statusFirst (s.control.xbase + 160) 32)
        ∧ (¬ initial → s.service.SameWork t.service)
        ∧ t.store.bank0 =
            (if s.store.bank0.state = .filling then
              { s.store.bank0 with
                state := if initial then .current else .pending, content := (s.store.bank0.content ++ bytes).take 2208 }
            else s.store.bank0)
        ∧ t.store.bank1 =
            (if s.store.bank1.state = .filling then
              { s.store.bank1 with
                state := if initial then .current else .pending, content := (s.store.bank1.content ++ bytes).take 2208 }
            else s.store.bank1)
    ∃ t, exec (.planReadDone data) s = .next t
      ∧ (s.loader.total = none → badFormat → rejected t .badFormat)
      ∧ (s.loader.total = none → ¬ badFormat → goesOn t (160 + 16 * (half filled 2).toNat))
      ∧ (∀ total, s.loader.total = some total → position < total → goesOn t total)
      ∧ (∀ total reason, s.loader.total = some total → total ≤ position →
          planFailure filled crc tolerance = some reason → rejected t reason)
      ∧ (∀ total, s.loader.total = some total → total ≤ position →
          planFailure filled crc tolerance = none → passed t)
      ∧ (s.store.bank0.state = .filling → filled = (s.store.bank0.content ++ bytes).take 2208)
      ∧ (s.store.bank0.state ≠ .filling → s.store.bank1.state = .filling →
          filled = (s.store.bank1.content ++ bytes).take 2208)
      ∧ t.timer = s.timer ∧ t.cells = s.cells ∧ t.static = s.static
      ∧ t.queue = s.queue ∧ t.staging = s.staging ∧ t.writer = s.writer ∧ t.health = s.health
      ∧ s.SamePortRegisters t ∧ s.SameSurroundings t)
    ∧ (∀ (data : Vector Byte 64) (s : State), s.Carries .planRead → s.loader.readOut = .stale →
       ∃ t, exec (.planReadDone data) s = .next t
         ∧ t.loader = { s.loader with readOut := if s.loader.filling then .currentLoad else .none }
         ∧ (s.loader.filling = true →
             t.Asks (if s.control.engine = .loading then .service else .loader) .planRead
               (s.loader.address + BitVec.ofNat 64 s.loader.position)
               (match s.loader.total with
               | none => 32
               | some total => min 64 (total - s.loader.position)))
         ∧ t.control = s.control ∧ s.SameLinesAndPlans t ∧ t.staging = s.staging ∧ t.writer = s.writer
         ∧ t.health = s.health ∧ s.service.SameWork t.service ∧ s.SamePortRegisters t ∧ s.SameSurroundings t)
    ∧ (∀ (bs : List Byte) (crc : Word) (tolerance : Nat),
       let failure := planFailure bs crc tolerance
       let h := planHeader bs
       let g := h.geometry
       let as := planActions bs
       let direction := fun (a : ActionRecord) => (planSettings bs (lineOf a.line)).direction
       let badCheck := crc ^^^ 0xFFFFFFFF#32 ≠ h.check
       let badGeometry := ¬ (1024 ≤ g.frameLength ∧ g.frameLength ≤ 4194304 ∧ 1 ≤ g.slots ∧ g.slots ≤ 64
         ∧ 16 ≤ g.slotLength ∧ g.slotLength ≤ 65535 ∧ g.minislots ≤ 256
         ∧ 8 ≤ g.minislotLength ∧ g.minislotLength ≤ 4095 ∧ (g.minislots = 0 ∨ g.latestStart < g.minislots)
         ∧ g.slots * g.slotLength + g.minislots * g.minislotLength + 2048 + tolerance ≤ g.frameLength)
       let tooMany := 128 < h.actions ∨ ∃ a ∈ as, 8 < as.countP fun b => b.slot == a.slot
       let badOrder := ∃ (k : Nat) (a b : ActionRecord), as[k]? = some a ∧ as[k + 1]? = some b
         ∧ ¬ (a.slot < b.slot ∨ (a.slot = b.slot ∧ a.offset < b.offset)
           ∨ (a.slot = b.slot ∧ a.offset = b.offset ∧ a.line.toNat < b.line.toNat))
       let badFilter := ∃ a ∈ as, a.period ∉ [1, 2, 4, 8, 16, 32, 64] ∨ a.period ≤ a.phase
       let badParam := (∃ a ∈ as, g.slots ≤ a.slot ∨ 15 < a.line.toNat ∨ a.kind = 5 ∨ a.op = none)
         ∨ ∃ l, planLine bs l = none
       let overrunsSlot := ∃ a ∈ as, g.slotLength < a.offset + a.duration
       let lineMode := ∃ a ∈ as, (a.kind ∈ [1, 2, 3] ∧ direction a ≠ .drive) ∨ (a.kind = 4 ∧ direction a ≠ .sense)
       let overlap := ∃ (i k : Nat) (a b : ActionRecord), i < k ∧ as[i]? = some a ∧ as[k]? = some b
         ∧ a.line = b.line ∧ a.slot = b.slot ∧ a.offset < b.offset + b.duration ∧ b.offset < a.offset + a.duration
       (badCheck → failure = some .badCheck)
         ∧ (¬ badCheck → badGeometry → failure = some .badGeometry)
         ∧ (¬ badCheck → ¬ badGeometry → tooMany → failure = some .tooMany)
         ∧ (¬ badCheck → ¬ badGeometry → ¬ tooMany → badOrder → failure = some .badOrder)
         ∧ (¬ badCheck → ¬ badGeometry → ¬ tooMany → ¬ badOrder → badFilter → failure = some .badFilter)
         ∧ (¬ badCheck → ¬ badGeometry → ¬ tooMany → ¬ badOrder → ¬ badFilter → badParam → failure = some .badParam)
         ∧ (¬ badCheck → ¬ badGeometry → ¬ tooMany → ¬ badOrder → ¬ badFilter → ¬ badParam → overrunsSlot →
             failure = some .overrunsSlot)
         ∧ (¬ badCheck → ¬ badGeometry → ¬ tooMany → ¬ badOrder → ¬ badFilter → ¬ badParam → ¬ overrunsSlot →
             lineMode → failure = some .lineMode)
         ∧ (¬ badCheck → ¬ badGeometry → ¬ tooMany → ¬ badOrder → ¬ badFilter → ¬ badParam → ¬ overrunsSlot →
             ¬ lineMode → overlap → failure = some .overlap)
         ∧ (¬ badCheck → ¬ badGeometry → ¬ tooMany → ¬ badOrder → ¬ badFilter → ¬ badParam → ¬ overrunsSlot →
             ¬ lineMode → ¬ overlap → failure = none))

/-- R77 to R87, R94, R95: an entry of the board is read. POSTED, its index not held: it passes every take check while the queue
has room, and joins the queue as WAITING with the next take sequence, and TAKEN is to be written. It fails a check: it does not
join, and its result, with the detail of the first check failed, and REJECTED are to be written. It passes while the queue is
full: BACKLOG is set and it is left. POSTED, its index held: TAKEN is to be written again, unless the entry is FINISHED.
CANCEL_REQ: a WAITING entry is FINISHED as CANCELLED and its result is to be written; any other held entry is left; with none
held CANCEL_LATE is to be written. A value of 9 or above sets JUNK. Any other value is left as it is. The last clauses give the
take checks in their order, the operation of a request and its length in minislots. -/
def Obligations.PostedRequestIsTakenOrRejected : Prop :=
  (∀ (data : Vector Byte 48) (s : State) (board : Nat), s.Carries (.boardRead board) →
       word data.toList 0 = 1 → s.queue.find board = none →
       takeFailure s.store.plan (readRequest data.toList) = none → s.queue.entries.length < 16 →
       ∃ t, exec (.boardEntryReadDone data) s = .next t
         ∧ t.queue.entries.Perm
             ({ board := board, tag := word data.toList 4, request := readRequest data.toList,
                earliest := if byteAt data.toList 13 = 1 then s.timer.nextFrame else word data.toList 16,
                take := s.queue.nextTake, status := .waiting, startMinislot := none, ending := .none,
                result := { detail := .none, afterSwitch := false, startFrame := 0, startTime := 0, captures := 0 } }
               :: s.queue.entries)
         ∧ t.queue.nextTake = s.queue.nextTake + 1
         ∧ t.Asks .service (.stateWrite board .taken) (s.control.xbase + BitVec.ofNat 64 (192 + 48 * board)) 4
         ∧ t.control = s.control ∧ t.timer = s.timer ∧ t.cells = s.cells ∧ t.store = s.store ∧ t.loader = s.loader
         ∧ t.staging = s.staging ∧ t.writer = s.writer ∧ t.health = s.health ∧ t.static = s.static
         ∧ t.queue.runList = s.queue.runList ∧ t.queue.action = s.queue.action ∧ t.queue.nextFree = s.queue.nextFree
         ∧ s.service.SameWork t.service ∧ s.SamePortRegisters t ∧ s.SameSurroundings t)
    ∧ (∀ (data : Vector Byte 48) (s : State) (board : Nat) (reason : OutcomeDetail), s.Carries (.boardRead board) →
       word data.toList 0 = 1 → s.queue.find board = none →
       takeFailure s.store.plan (readRequest data.toList) = some reason →
       ∃ t, exec (.boardEntryReadDone data) s = .next t
         ∧ t.Asks .service
             (.resultWrite board
               { detail := reason, afterSwitch := false, startFrame := 0, startTime := 0, captures := 0 } .rejected)
             (s.control.xbase + BitVec.ofNat 64 (192 + 48 * board + 32)) 16
         ∧ t.control = s.control ∧ s.SameLinesAndPlans t ∧ t.loader = s.loader ∧ t.staging = s.staging
         ∧ t.writer = s.writer ∧ t.health = s.health ∧ s.service.SameWork t.service ∧ s.SamePortRegisters t
         ∧ s.SameSurroundings t)
    ∧ (∀ (data : Vector Byte 48) (s : State) (board : Nat), s.Carries (.boardRead board) →
       s.service.activity = .pass ∨ s.service.activity = .tail →
       let code := (word data.toList 0).toNat
       let address := s.control.xbase + BitVec.ofNat 64 (192 + 48 * board)
       let left := fun (t : State) => s.SameButService t ∧ s.ScanGoesOn t
         ∧ (s.service.activity = .pass → s.service.step = .c → s.service.SameFlags t.service)
       ∃ t, exec (.boardEntryReadDone data) s = .next t
         ∧ (code = 0 ∨ code = 2 ∨ (4 ≤ code ∧ code ≤ 8) → left t)
         ∧ (9 ≤ code → s.SameButService t ∧ s.ScanGoesOn t
             ∧ (s.service.activity = .pass → s.service.step = .c →
                 Service.SameFlags { s.service with junk := true } t.service))
         ∧ (code = 1 → s.queue.find board = none → takeFailure s.store.plan (readRequest data.toList) = none →
             16 ≤ s.queue.entries.length → s.SameButService t ∧ s.ScanGoesOn t
               ∧ (s.service.activity = .pass → s.service.step = .c →
                   Service.SameFlags { s.service with backlog := true } t.service))
         ∧ (∀ e, code = 1 → s.queue.find board = some e → e.status ≠ .finished →
             t.Asks .service (.stateWrite board .taken) address 4
               ∧ s.SameButService t ∧ s.service.SameWork t.service)
         ∧ (∀ e, code = 1 → s.queue.find board = some e → e.status = .finished → left t)
         ∧ (∀ e, code = 3 → s.queue.find board = some e → e.status = .waiting →
             t.Asks .service (.resultWrite board { e.result with detail := .cancelled, afterSwitch := false } .cancelled)
                 (address + 32) 16
               ∧ State.SameButService
                   { s with queue := { s.queue with
                       entries := s.queue.entries.map fun x =>
                         if x.board = board then
                           { x with
                             status := .finished, ending := .cancelled
                             result := { x.result with detail := .cancelled, afterSwitch := false } }
                         else x } } t
               ∧ s.service.SameWork t.service)
         ∧ (∀ e, code = 3 → s.queue.find board = some e → e.status ≠ .waiting → left t)
         ∧ (code = 3 → s.queue.find board = none →
             t.Asks .service (.stateWrite board .cancelLate) address 4
               ∧ s.SameButService t ∧ s.service.SameWork t.service))
    ∧ (∀ (plan : List Byte) (r : Request),
       let failure := takeFailure plan r
       let g := (planHeader plan).geometry
       let direction := (planSettings plan (lineOf r.line)).direction
       let badKind := r.kind ∉ [1, 2, 3, 4, 5]
       let badLine := r.kind ≠ 5 ∧ 15 < r.line.toNat
       let badParam := 7 < r.priority.toNat ∨ (r.atOnce ≠ 0 ∧ r.atOnce ≠ 1) ∨ r.op = none
       let lineMode := (r.kind ∈ [1, 2, 3] ∧ direction ≠ .drive) ∨ (r.kind = 4 ∧ direction ≠ .sense)
       let tooLong := g.minislots = 0 ∨ g.minislots < r.minislots g
       (badKind → failure = some .badKind)
         ∧ (¬ badKind → badLine → failure = some .badLine)
         ∧ (¬ badKind → ¬ badLine → badParam → failure = some .badParam)
         ∧ (¬ badKind → ¬ badLine → ¬ badParam → lineMode → failure = some .lineMode)
         ∧ (¬ badKind → ¬ badLine → ¬ badParam → ¬ lineMode → tooLong → failure = some .tooLong)
         ∧ (¬ badKind → ¬ badLine → ¬ badParam → ¬ lineMode → ¬ tooLong → failure = none))
    ∧ (∀ (r : Request) (g : Geometry) (op : Operation), r.op = some op → 0 < g.minislotLength →
       1 ≤ r.minislots g ∧ op.duration ≤ r.minislots g * g.minislotLength
         ∧ ∀ n, 1 ≤ n → op.duration ≤ n * g.minislotLength → r.minislots g ≤ n)
    ∧ (∀ (kind opEdge most : Byte) (p1 p2 p3 : Half),
       let op := operationOf kind opEdge most p1 p2 p3
       (kind = 1 → op = if opEdge = 0 then some (.level .set) else if opEdge = 1 then some (.level .clear)
           else if opEdge = 2 then some (.level .toggle) else none)
         ∧ (kind = 2 → op = if p1 = 0 then none else some (.pulse p1.toNat))
         ∧ (kind = 3 → op = if p1.toNat < 2 ∨ p3 = 0 then none else some (.burst p1.toNat p2.toNat p3.toNat))
         ∧ (kind = 4 → op = if p1 = 0 ∨ most = 0 ∨ 8 < most.toNat then none
           else if opEdge = 0 then some (.window p1.toNat .rise most.toNat)
           else if opEdge = 1 then some (.window p1.toNat .fall most.toNat)
           else if opEdge = 2 then some (.window p1.toNat .both most.toNat) else none)
         ∧ (kind = 5 → op = some .mark) ∧ (kind ∉ [1, 2, 3, 4, 5] → op = none))

/-- R88, R130: a completed result write is followed by the state write of its final state, and a completed first status write
by the 64-byte second one; no other block changes. -/
def Obligations.SecondWritesFollowTheFirst : Prop :=
  (∀ (s : State) (board : Nat) (result : ResultFields) (final : StateWord), s.Carries (.resultWrite board result final) →
    ∃ t, exec .resultWriteDone s = .next t
      ∧ t.Asks .service (.stateWrite board final) (s.control.xbase + BitVec.ofNat 64 (192 + 48 * board)) 4
      ∧ t.control = s.control ∧ s.SameLinesAndPlans t ∧ t.loader = s.loader ∧ t.staging = s.staging
      ∧ t.writer = s.writer ∧ t.health = s.health ∧ s.service.SameWork t.service ∧ s.SamePortRegisters t ∧ s.SameSurroundings t)
    ∧ ∀ s : State, s.Carries .statusFirst →
      ∃ t, exec .statusFirstWriteDone s = .next t
        ∧ t.Asks .service .statusSecond (s.control.xbase + 96) 64
        ∧ t.control = s.control ∧ s.SameLinesAndPlans t ∧ t.loader = s.loader ∧ t.staging = s.staging
        ∧ t.writer = s.writer ∧ t.health = s.health ∧ s.service.SameWork t.service ∧ s.SamePortRegisters t ∧ s.SameSurroundings t

/-- R85, R88, R89, R96, R128, R129: a completed state write. In step B it removes its entry from the queue, and the next entry
of the post list is posted, or step C begins; in step C it removes the entry when the word is CANCELLED, and the scan goes on.
A final state is noted in a pass and raises RESULT in a tail; a TAKEN does neither. -/
def Obligations.StateWriteRemovesThePostedEntry : Prop :=
  ∀ (s : State) (board : Nat) (word : StateWord), s.Carries (.stateWrite board word) →
    s.service.activity = .pass ∨ s.service.activity = .tail →
    s.service.unit = .post board ∨ s.service.unit = .scan board →
    let final := word ∈ [.done, .expired, .cancelled, .rejected, .cancelLate]
    ∃ t, exec .stateWordWriteDone s = .next t
      ∧ (s.service.unit = .post board ∨ word = .cancelled →
          t.queue = { s.queue with entries := s.queue.entries.filter fun e => e.board != board })
      ∧ (s.service.unit = .scan board → word ≠ .cancelled → t.queue = s.queue)
      ∧ (s.service.activity = .pass → s.service.step = .b ∨ s.service.step = .c →
          t.service.noted = (s.service.noted || decide final))
      ∧ t.control.has .result = (s.control.has .result || (s.service.activity == .tail && decide final))
      ∧ s.ScanGoesOn t
      ∧ (s.service.activity = .pass → s.service.step = .b → s.PostingGoesOn t t.queue s.service.postList.tail)
      ∧ (s.service.activity = .pass → Service.SameFlags { s.service with noted := t.service.noted } t.service)
      ∧ t.control.engine = s.control.engine ∧ t.timer = s.timer ∧ t.cells = s.cells ∧ t.store = s.store
      ∧ t.static = s.static ∧ t.loader = s.loader ∧ t.staging = s.staging ∧ t.writer = s.writer
      ∧ t.health = s.health ∧ s.control.RaisesOnly t.control [.result]
      ∧ t.control.setup = s.control.setup ∧ t.control.readback = s.control.readback
      ∧ t.service.hostControl = s.service.hostControl ∧ s.SamePortRegisters t ∧ s.SameSurroundings t

/-- R69, R124, R126, R131, R132, R133, R136: the second status write of a pass, a tail or a closing write completed. The plan
status is posted when it is still the one written, and an outcome then gives way to the FILLING of a load in progress. At the
end of a pass RESULT is raised when a final state was noted, and JOURNAL when the watermark is reached; a tail and a closing
write evaluate no cause. Then a closing write that is owed waits, or an owed pass begins, or the Service Unit rests. -/
def Obligations.StatusWriteEndsThePass : Prop :=
  ∀ s : State, s.Carries .statusSecond →
    s.service.activity = .pass ∨ s.service.activity = .tail
      ∨ (s.service.activity = .statusWrite ∧ s.control.engine ≠ .loading) →
    ∃ t, exec .statusSecondWriteDone s = .next t
      ∧ s.loader.Posted t.loader s.service.snapshot.plan
      ∧ (s.service.activity = .pass → s.PassEnds t)
      ∧ (s.service.activity ≠ .pass → s.UnitFree t ∧ t.control = s.control)
      ∧ t.control.engine = s.control.engine ∧ t.control.readback = s.control.readback
      ∧ t.control.setup = s.control.setup ∧ s.control.RaisesOnly t.control [.result, .journal]
      ∧ t.service.hostControl = s.service.hostControl ∧ s.SamePortRegisters t
      ∧ s.SameLinesAndPlans t ∧ t.staging = s.staging ∧ t.writer = s.writer ∧ t.health = s.health
      ∧ s.SameSurroundings t

/-- R35, R120, R137, R163: the end of LOAD's status write succeeds LOAD: ARMED, the setup being loaded in force, the writer
enabled, the lines at the initial plan's table and rest levels, and the plan status posted when it is still the one written. -/
def Obligations.LoadSucceedsWithTheStatusWrite : Prop :=
  ∀ (s : State) (u : Setup), s.Carries .statusSecond → s.service.activity = .statusWrite →
    s.control.engine = .loading → s.control.loading = some u →
    ∃ t, exec .statusSecondWriteDone s = .next t
      ∧ t.control =
          { s.control with
            engine := .armed, pending := .none, stage := .none, setup := u, loading := none
            readback := { last := 1, outcome := .done, reason := .none, planReason := .none }
            cause := s.control.cause ||| 0b010000#6 }
      ∧ s.loader.Posted t.loader s.service.snapshot.plan
      ∧ t.writer = { s.writer with enabled := true }
      ∧ (∀ l, (t.cells.get l).settings = planSettings s.store.plan l)
      ∧ (∀ l, (planSettings s.store.plan l).direction = .drive →
          (t.cells.get l).logical = (planSettings s.store.plan l).rest)
      ∧ t.service.activity = .none ∧ t.timer = s.timer ∧ t.store = s.store ∧ t.staging = s.staging
      ∧ t.static = s.static ∧ t.queue = s.queue ∧ t.service.hostControl = s.service.hostControl
      ∧ t.health = s.health ∧ s.SamePortRegisters t ∧ s.SameSurroundings t

/-- R112, R116, R117: a completed journal write: W increases by one and the head record leaves staging. The records of this
tick that waited for its place are judged, and the loss of one while a frame runs reports CAPTURE_LOSS (R113; the model's field
of log 23). The next write is asked for at slot W mod J while the writer's conditions hold. Nothing else of the part but the
port changes. -/
def Obligations.JournalWriteAdvancesW : Prop :=
  ∀ s : State, s.Carries .journalWrite →
    ∃ t, exec .journalWriteDone s = .next t
      ∧ t.writer = { s.writer with written := s.writer.written + 1 }
      ∧ t.staging = { s.staging with records := s.staging.records.tail }.judge
      ∧ (s.staging.offered = [] →
          t.staging = { s.staging with records := s.staging.records.tail } ∧ t.health = s.health)
      ∧ t.health =
          { s.health with faultsNow := { s.health.faultsNow with
              loss := s.health.faultsNow.loss
                || (s.timer.frameTime.isSome && s.staging.LosesLate s.staging.records.tail.length) } }
      ∧ (s.port.writer = none → t.WriterReady →
          t.Asks .writer .journalWrite
            (s.writer.base + BitVec.ofNat 64 (32 * ((s.writer.written + 1).toNat % s.writer.size.toNat))) 32)
      ∧ (s.port.writer = none → ¬ t.WriterReady → t.port.writer = none)
      ∧ t.control = s.control ∧ s.SameLinesAndPlans t ∧ t.loader = s.loader
      ∧ s.service.SameWork t.service ∧ t.port.busFaults = s.port.busFaults ∧ t.port.timeout = s.port.timeout
      ∧ s.SameSurroundings t

/-- R65, R77, R88, R118, R127, R131, R137, R143 to R145, R163, R164: a transfer that is still wanted fails, by an error
response or when its timer runs out: the failure is counted, BUS is raised, and BUS_FAULT is reported while a frame runs. What
it means to its requester: a journal write loses the head record, leaves W as it is and reports no CAPTURE_LOSS of its own; a
read of LOAD ends LOAD with BUS; a read of the load in progress ends it BUS_FAILED, and a STALE one only clears the read; step
A hands over the values kept, and step B begins; an entry that could not be read, or whose result or state could not be
written, stays as it is and the pass goes on with the next unit (R128, R129); a status write of a pass, a tail or a closing
write ends it as a completed one, but the plan status is not posted (R132); LOAD's status write ends and LOAD succeeds. The
report stands with the present tick's until the tick passes (the model's field of log 11), and the records that waited for the
head's place are judged (the model's field of log 23). That a read of the Loader which only waits at the port is marked STALE
like an outstanding one is the model's reading of log 9. -/
def Obligations.FailedTransferIsCountedAndReported : Prop :=
  ∀ (s : State) (x : Transfer) (c : Instr), s.port.outstanding = some x → x.discard = false →
    c = .busError ∨ (c = .timeout ∧ x.expiryTick ≤ s.now) →
    let kind : PlanDetail := if c = .busError then .busError else .timeout
    let counted := { s with control := { s.control with cause := s.control.cause ||| 0b100000#6 } }
    let freed := fun (b : Bank) => if b.state = .filling then .free else b
    let lost := { s.staging with
      records := s.staging.records.tail, lossAccumulator := saturatingSucc s.staging.lossAccumulator
      lost := s.staging.lost + 1 }
    ∃ t, exec c s = .next t
      ∧ t.port.busFaults = s.port.busFaults + 1
      ∧ t.control.has .bus = true
      ∧ t.health.faultsNow.bus = (s.health.faultsNow.bus || s.timer.frameTime.isSome)
      ∧ (x.kind ≠ .journalWrite ∨ s.staging.offered = [] → t.health.faultsNow.loss = s.health.faultsNow.loss)
      ∧ (x.kind = .journalWrite → t.health.faultsNow.loss = (s.health.faultsNow.loss
          || (s.timer.frameTime.isSome && s.staging.LosesLate s.staging.records.tail.length)))
      ∧ t.health.score = s.health.score
      ∧ (x.kind = .journalWrite → t.writer = s.writer ∧ t.staging = lost.judge
          ∧ (s.staging.offered = [] → t.staging = lost) ∧ t.control = counted.control)
      ∧ (x.kind = .setupRead ∨ x.kind = .hostControlRead → t.control.engine = .idle ∧ t.control.pending = .none
          ∧ t.control.readback = { last := 1, outcome := .failed, reason := .bus, planReason := .none })
      ∧ (x.kind = .planRead → s.loader.readOut = .currentLoad →
          t.loader =
              { s.loader with
                filling := false, generation := 0, readOut := .none, posted := false
                status := { generation := s.loader.generation, status := .busFailed, detail := kind } }
            ∧ t.store = { s.store with bank0 := freed s.store.bank0, bank1 := freed s.store.bank1 }
            ∧ t.control.has .plan = true
            ∧ (s.control.engine ≠ .loading →
                t.control = { s.control with cause := s.control.cause ||| 0b100100#6 })
            ∧ (s.control.engine = .loading → t.control.engine = .idle ∧ t.control.pending = .none
                ∧ t.control.readback = { last := 1, outcome := .failed, reason := .bus, planReason := .none }))
      ∧ (x.kind = .planRead → s.loader.readOut = .stale →
          t.loader = { s.loader with readOut := if s.loader.filling then .currentLoad else .none }
            ∧ t.store = s.store ∧ t.control = counted.control
            ∧ (s.loader.filling = true → s.control.engine ≠ .loading →
                t.Asks .loader .planRead (s.loader.address + BitVec.ofNat 64 s.loader.position) s.loader.readLength))
      ∧ (x.kind = .stepARead →
          let h := s.service.hostControl
          let accepted := (h.release - s.writer.released).toNat ≤ (s.writer.written - s.writer.released).toNat
          t.service.hostControl = h
            ∧ t.writer = { s.writer with
                released := if accepted then h.release else s.writer.released, watermark := h.watermark }
            ∧ counted.PlanHandedOver t h.planAddress h.planGeneration
            ∧ (s.service.activity = .pass → t.service.step ≠ .a
                ∧ t.service.releaseBad = (s.service.releaseBad || decide (¬ accepted))
                ∧ s.PostingGoesOn t s.queue s.queue.finishedByTake)
            ∧ s.TailEnds t)
      ∧ (∀ u, x.kind = .statusFirst ∨ x.kind = .statusSecond → s.service.activity = .statusWrite →
          s.control.engine = .loading → s.control.loading = some u →
          t.control =
              { s.control with
                engine := .armed, pending := .none, stage := .none, setup := u, loading := none
                readback := { last := 1, outcome := .done, reason := .none, planReason := .none }
                cause := s.control.cause ||| 0b110000#6 }
            ∧ t.writer = { s.writer with enabled := true } ∧ t.loader = s.loader ∧ t.service.activity = .none)
      ∧ (∀ board, x.kind = .boardRead board → s.ScanGoesOn t ∧ t.control = counted.control)
      ∧ (∀ board word, (∃ result, x.kind = .resultWrite board result word) ∨ x.kind = .stateWrite board word →
          s.ScanGoesOn t ∧ t.control = counted.control
            ∧ (s.service.activity = .pass → s.service.step = .b → s.PostingGoesOn t s.queue s.service.postList.tail))
      ∧ (x.kind ∈ [.statusFirst, .statusSecond] ∨ (∃ board, x.kind = .boardRead board)
            ∨ (∃ board result word, x.kind = .resultWrite board result word)
            ∨ (∃ board word, x.kind = .stateWrite board word) →
          (s.control.engine ≠ .loading → t.writer = s.writer) ∧ t.service.hostControl = s.service.hostControl
            ∧ (s.service.activity = .pass → t.service.activity = .pass → t.service.step ≠ .a →
                s.service.SameFlags t.service))
      ∧ (x.kind = .statusFirst ∨ x.kind = .statusSecond →
          (s.service.activity = .pass → s.PassEnds t)
            ∧ (s.service.activity = .tail ∨ (s.service.activity = .statusWrite ∧ s.control.engine ≠ .loading) →
                s.UnitFree t ∧ t.control = counted.control))
      ∧ (x.kind = .statusFirst ∨ x.kind = .statusSecond → t.loader = s.loader)
      ∧ (x.kind ≠ .journalWrite → t.staging = s.staging)
      ∧ t.timer = s.timer ∧ t.static = s.static ∧ t.queue = s.queue ∧ t.health.overruns = s.health.overruns
      ∧ t.health.syncFaults = s.health.syncFaults ∧ t.health.faults = s.health.faults
      ∧ t.port.timeout = s.port.timeout ∧ s.SameSurroundings t

/-- R117, R141, R143, R144, R146, R147: a response to a transfer that has already failed is ignored. A discarded transfer ends
in its own time, by the response of its kind, by an error, by its timer or by DISCARDED_TRANSFER_END: nothing is counted,
raised, reported or handed to anyone, and the port is free of it and grants. A waiting request of SERVICE goes first, then the
WRITER's, then the LOADER's; a write that the writer asks for at this very event may be taken before or after the end (R141;
the free value of log 5). With nothing to grant nothing is outstanding. -/
def Obligations.LateAndDiscardedEndsHaveNoEffect : Prop :=
  (∀ s : State, exec .lateResponse s = .next s)
    ∧ (∀ (s : State) (x : Transfer) (c : Instr), s.EndsTransfer c x → x.discard = true →
       let next : Waiting :=
         { kind := .journalWrite, length := 32,
           address := s.writer.base + BitVec.ofNat 64 (32 * (s.writer.written.toNat % s.writer.size.toNat)) }
       ∃ t, exec c s = .next t
         ∧ (∀ w, s.port.service = some w → t.Grants .service w)
         ∧ (∀ w, s.port.service = none → s.port.writer = some w → t.Grants .writer w)
         ∧ (∀ w, s.port.service = none → s.port.writer = none → s.port.loader = some w → ¬ s.WriterReady →
             t.Grants .loader w)
         ∧ (∀ w, s.port.service = none → s.port.writer = none → s.port.loader = some w → s.WriterReady →
             (t.Grants .writer next ∧ t.port.loader = some w) ∨ (t.Grants .loader w ∧ t.port.writer = some next))
         ∧ (s.port.service = none → s.port.writer = none → s.port.loader = none → s.WriterReady →
             t.Grants .writer next)
         ∧ (s.port.service = none → s.port.writer = none → s.port.loader = none → ¬ s.WriterReady →
             t.port.outstanding = none ∧ t.port.service = none ∧ t.port.writer = none ∧ t.port.loader = none)
         ∧ (∀ w, s.port.writer = some w → s.port.service ≠ none → t.port.writer = some w)
         ∧ (s.port.service ≠ none ∨ s.port.writer ≠ none → t.port.loader = s.port.loader)
         ∧ s.SamePortRegisters t ∧ t.control = s.control ∧ s.SameLinesAndPlans t ∧ t.loader = s.loader
         ∧ t.staging = s.staging ∧ t.writer = s.writer ∧ t.health = s.health ∧ s.service.SameWork t.service
         ∧ s.SameSurroundings t)

/-- R140, R141, R143: while the port is free, of the waiting requests the one of highest priority is issued at once, with its
timer set; the others go on waiting. Of every command: it leaves no request waiting at a free port, so that a request made
while the port is free is issued at that event; a transfer outstanding after it is the one before or has been issued at this
tick with its timer set; and at the end of a transfer, of the requests waiting before it and those taken with it, one of the
highest priority is issued. -/
def Obligations.PortGrantsByPriority : Prop :=
  (∀ s : State, s.port.outstanding = none →
    (∀ w, s.port.service = some w → ∃ x, (grantFree s).port.outstanding = some x ∧ x.requester = .service
        ∧ x.kind = w.kind ∧ x.address = w.address ∧ x.length = w.length
        ∧ x.expiryTick = s.now + s.port.timeout ∧ (grantFree s).port.service = none
        ∧ (grantFree s).port.writer = s.port.writer ∧ (grantFree s).port.loader = s.port.loader)
      ∧ (∀ w, s.port.service = none → s.port.writer = some w → ∃ x, (grantFree s).port.outstanding = some x
        ∧ x.requester = .writer ∧ x.kind = w.kind ∧ x.address = w.address ∧ x.length = w.length
        ∧ (∀ r, w.kind = .journalWrite → s.staging.records.head? = some r → x.data = recordBytes r)
        ∧ x.expiryTick = s.now + s.port.timeout
        ∧ (grantFree s).port.writer = none ∧ (grantFree s).port.loader = s.port.loader)
      ∧ (∀ w, s.port.service = none → s.port.writer = none → s.port.loader = some w →
        ∃ x, (grantFree s).port.outstanding = some x ∧ x.requester = .loader ∧ x.kind = w.kind
          ∧ x.address = w.address ∧ x.length = w.length ∧ x.expiryTick = s.now + s.port.timeout
          ∧ (grantFree s).port.loader = none))
    ∧ (∀ (c : Instr) (s t : State), s.PortServed → exec c s = .next t → t.PortServed)
    ∧ (∀ (c : Instr) (s t : State) (y : Transfer), exec c s = .next t → t.port.outstanding = some y →
       (∃ x, s.port.outstanding = some x ∧ y = { x with discard := y.discard })
         ∨ (y.issueTick = s.now ∧ y.expiryTick = s.now + t.port.timeout ∧ y.discard = false
             ∧ t.port.waiting y.requester = none))
    ∧ (∀ (c : Instr) (s : State) (x : Transfer), s.EndsTransfer c x → ∃ t, exec c s = .next t
       ∧ ∀ q, s.port.waiting q ≠ none → ∃ y, t.port.outstanding = some y ∧ y.issueTick = s.now ∧ y.discard = false
         ∧ requesterRank y.requester ≤ requesterRank q ∧ (q ≠ y.requester → t.port.waiting q ≠ none))

/-- R112 to R114: a record offered: with fewer than 32 staged it joins at the back with the loss accumulator, at most 65,535,
as its lost-before count, and the accumulator returns to 0. With 32 it is lost, and the accumulator and the records-lost count
go up, and for a capture or a mark the count of the present tick too; but when the head is at the port (`departing`) it waits,
since the head may leave at this very tick, and is judged in its turn then (the model's fields of log 23). Of `n` records
offered, those are lost that 32 places do not hold, and CAPTURE_LOSS is reported for them while a frame runs. -/
def Obligations.OfferedRecordJoinsOrIsLost : Prop :=
  (∀ (st : Staging) (departing : Bool) (body : RecordBody) (frame : Word) (time : Nat),
    (st.records.length < 32 → st.offer departing body (frame, time) =
        { st with
          records := st.records ++
            [{ body := body, frame := frame, time := time,
               lostBefore := BitVec.ofNat 16 (min 65535 st.lossAccumulator.toNat) }]
          lossAccumulator := 0 })
      ∧ (32 ≤ st.records.length → st.offer false body (frame, time) =
        { st with
          lossAccumulator :=
            if st.lossAccumulator = 4294967295#32 then 4294967295#32 else st.lossAccumulator + 1
          lost := st.lost + 1
          lostNow := if body.undoneByHalt then st.lostNow + 1 else st.lostNow })
      ∧ (32 ≤ st.records.length → st.offer true body (frame, time) =
        { st with offered := st.offered ++ [{ body := body, frame := frame, time := time }] })
      ∧ (body.undoneByHalt = true ↔
        (∃ line edge source, body = .capture line edge source) ∨ ∃ tag board, body = .mark tag board))
    ∧ (∀ st : Staging, (st.offered = [] → st.judge = st)
      ∧ ∀ o rest, st.offered = o :: rest →
        st.judge = ({ st with offered := rest }.offer false o.body (o.frame, o.time)).judge)
    ∧ (∀ (st : Staging) (bodies : List RecordBody) (stamp : Word × Nat), st.records.length ≤ 32 →
      (st.offerAll false bodies stamp).records.length = min 32 (st.records.length + bodies.length)
        ∧ (st.offerAll false bodies stamp).lost
            = st.lost + BitVec.ofNat 32 (st.records.length + bodies.length - 32))
    ∧ (∀ (bodies : List RecordBody) (stamp : Word × Nat) (s : State),
      offer bodies stamp s =
        { s with
          staging := s.staging.offerAll s.journalWriteOutstanding bodies stamp
          health := { s.health with faultsNow := { s.health.faultsNow with
            loss := s.health.faultsNow.loss || (s.timer.frameTime.isSome && s.ReportsLoss bodies.length) } } })

/-! ## What the part writes -/

/-- R37 to R40, R73 to R76, R110, R130, R175, R176: where each field of a status section, a result, a state word and a journal
record lies, and zeros where none does; what a status write carries when its first write is issued; and what every write
carries that is issued. It says too where each field of a plan and of a board entry is read, every field little-endian (the
setup section and host control are read in SetupReadEndsLoadOrGoesOn and LoadHostControlStartsTheInitialLoad), that a setting
of a line table entry is 0 or 1, and the code of every value the part writes or shows. -/
def Obligations.WritesFollowTheLayouts : Prop :=
  (∀ p : Snapshot,
       let a := statusFirstBytes p
       let b := statusSecondBytes p
       a.length = 32 ∧ word a 0 = p.overruns ∧ word a 4 = p.syncFaults ∧ word a 8 = p.busFaults
         ∧ word a 12 = p.recordsLost ∧ (∀ o, o < 32 → 16 ≤ o → byteAt a o = 0)
         ∧ b.length = 64 ∧ word b 0 = p.serial ∧ word b 4 = p.frame ∧ byteAt b 8 = byteOf p.engine.code
         ∧ byteAt b 9 = byteOf p.score ∧ (byteAt b 10).getLsbD 0 = p.backlog ∧ (byteAt b 10).getLsbD 1 = p.junk
         ∧ (byteAt b 10).getLsbD 2 = p.releaseBad ∧ (byteAt b 10).extractLsb' 3 5 = 0 ∧ byteAt b 11 = 0
         ∧ word b 12 = p.written ∧ word b 16 = p.released ∧ word b 20 = p.currentGeneration
         ∧ word b 24 = p.plan.generation ∧ byteAt b 28 = byteOf p.plan.status.code
         ∧ byteAt b 29 = byteOf p.plan.detail.code ∧ (∀ o, o < 64 → 30 ≤ o → byteAt b o = 0))
    ∧ (∀ r : ResultFields,
       let b := resultBytes r
       b.length = 16 ∧ byteAt b 0 = byteOf r.detail.code ∧ byteAt b 1 = flagByte r.afterSwitch ∧ half b 2 = 0
         ∧ word b 4 = r.startFrame ∧ word b 8 = BitVec.ofNat 32 r.startTime ∧ byteAt b 12 = byteOf r.captures
         ∧ byteAt b 13 = 0 ∧ byteAt b 14 = 0 ∧ byteAt b 15 = 0)
    ∧ (∀ r : Record,
       let b := recordBytes r
       b.length = 32 ∧ byteAt b 1 = 0 ∧ half b 2 = r.lostBefore ∧ word b 4 = r.frame ∧ word b 8 = BitVec.ofNat 32 r.time
         ∧ byteAt b 15 = 0 ∧ (∀ o, o < 32 → 24 ≤ o → byteAt b o = 0)
         ∧ (∀ line edge source, r.body = .capture line edge source →
             byteAt b 0 = 1 ∧ byteAt b 12 = byteOf line.val ∧ byteAt b 13 = byteOf edge.code ∧ half b 18 = 0
               ∧ (∀ slot action, source = .static slot action →
                   byteAt b 14 = 0 ∧ byteAt b 16 = byteOf slot ∧ byteAt b 17 = byteOf action ∧ word b 20 = 0)
               ∧ (∀ board tag, source = .spot board tag →
                   byteAt b 14 = 1 ∧ byteAt b 16 = byteOf board ∧ byteAt b 17 = 0 ∧ word b 20 = tag))
         ∧ (∀ tag board, r.body = .mark tag board →
             byteAt b 0 = 2 ∧ byteAt b 12 = 0 ∧ byteAt b 13 = 0 ∧ byteAt b 14 = 0 ∧ byteAt b 16 = byteOf board
               ∧ byteAt b 17 = 0 ∧ half b 18 = 0 ∧ word b 20 = tag)
         ∧ (∀ new old, r.body = .planSwitch new old →
             byteAt b 0 = 3 ∧ byteAt b 12 = 0 ∧ byteAt b 13 = 0 ∧ byteAt b 14 = 0 ∧ word b 16 = new ∧ word b 20 = old)
         ∧ (∀ new cause, r.body = .state new cause →
             byteAt b 0 = 4 ∧ byteAt b 12 = byteOf new.code ∧ byteAt b 13 = byteOf cause.code ∧ byteAt b 14 = 0
               ∧ word b 16 = 0 ∧ word b 20 = 0))
    ∧ (∀ (s : State) (w : Waiting), s.port.outstanding = none → s.port.service = some w → w.kind = .statusFirst →
       let p := (grantFree s).service.snapshot
       (grantFree s).service.serial = s.service.serial + 1 ∧ p.serial = s.service.serial + 1
         ∧ p.engine = (if s.control.engine = .loading then .armed else s.control.engine) ∧ p.score = s.health.score
         ∧ p.written = s.writer.written ∧ p.released = s.writer.released
         ∧ p.currentGeneration = s.store.currentGeneration ∧ p.plan = s.loader.status
         ∧ p.overruns = s.health.overruns ∧ p.syncFaults = s.health.syncFaults ∧ p.busFaults = s.port.busFaults
         ∧ p.recordsLost = s.staging.lost
         ∧ (s.service.activity = .pass → p.frame = s.service.passFrame ∧ p.backlog = s.service.backlog
             ∧ p.junk = s.service.junk ∧ p.releaseBad = s.service.releaseBad)
         ∧ (s.service.activity = .statusWrite → p.frame = s.timer.current ∧ p.backlog = false ∧ p.junk = false
             ∧ p.releaseBad = false)
         ∧ ∃ x, (grantFree s).port.outstanding = some x ∧ x.data = statusFirstBytes p ∧ x.address = w.address
             ∧ x.length = w.length)
    ∧ (∀ (c : Instr) (s t : State) (y : Transfer), exec c s = .next t → t.port.outstanding = some y →
       (∃ x, s.port.outstanding = some x ∧ y = { x with discard := y.discard })
         ∨ ((y.kind = .statusFirst → y.data = statusFirstBytes t.service.snapshot)
           ∧ (y.kind = .statusSecond → y.data = statusSecondBytes t.service.snapshot)
           ∧ (∀ board result final, y.kind = .resultWrite board result final → y.data = resultBytes result)
           ∧ (∀ board final, y.kind = .stateWrite board final → y.data = stateWordBytes final)
           ∧ (∀ r, y.kind = .journalWrite → t.staging.records.head? = some r → y.data = recordBytes r)
           ∧ (y.kind ∈ [.setupRead, .hostControlRead, .stepARead, .planRead] ∨ (∃ board, y.kind = .boardRead board) →
               y.data = [])))
    ∧ (∀ w : StateWord,
       (stateWordBytes w).length = 4 ∧ word (stateWordBytes w) 0 = BitVec.ofNat 32 w.code
         ∧ stateWordOf (BitVec.ofNat 32 w.code) = some w ∧ (w.isFinal = true ↔ 4 ≤ w.code))
    ∧ (∀ w : Word, 9 ≤ w.toNat → stateWordOf w = none)
    ∧ (∀ (bs : List Byte) (o : Nat),
       byteAt bs o = bs.getD o 0
         ∧ (half bs o).toNat = (byteAt bs o).toNat + 256 * (byteAt bs (o + 1)).toNat
         ∧ (word bs o).toNat = (half bs o).toNat + 65536 * (half bs (o + 2)).toNat
         ∧ (quad bs o).toNat = (word bs o).toNat + 4294967296 * (word bs (o + 4)).toNat)
    ∧ (∀ n : Nat, n ≤ 255 → (byteOf n).toNat = n) ∧ flagByte false = 0 ∧ flagByte true = 1
    ∧ (∀ bs : List Byte,
       planHeader bs =
           { format := (byteAt bs 0).toNat, actions := (half bs 2).toNat, generation := word bs 4, check := word bs 8
             geometry :=
               { slots := (byteAt bs 1).toNat, frameLength := (word bs 12).toNat, minislots := (half bs 16).toNat
                 slotLength := (half bs 18).toNat, minislotLength := (half bs 20).toNat
                 latestStart := (half bs 22).toNat }
             total := (word bs 24).toNat }
         ∧ (∀ l : Line,
             let b := fun (o : Nat) => byteAt bs (32 + 8 * l.val + o)
             let set := fun (o : Nat) => (b o).toNat = 1
             ((∀ o, o < 4 → (b o).toNat ≤ 1) → planLine bs l =
                 some { direction := if set 0 then .drive else .sense, rest := decide (set 1), safe := decide (set 2)
                        invert := decide (set 3) })
               ∧ ((∃ o, o < 4 ∧ 1 < (b o).toNat) → planLine bs l = none)
               ∧ ∀ settings, planLine bs l = some settings → planSettings bs l = settings)
         ∧ (∀ k : Nat,
             let o := 160 + 16 * k
             planAction bs k =
               { slot := (byteAt bs o).toNat, line := byteAt bs (o + 1), kind := byteAt bs (o + 2)
                 opEdge := byteAt bs (o + 3), maxCaptures := byteAt bs (o + 4), period := (byteAt bs (o + 5)).toNat
                 phase := (byteAt bs (o + 6)).toNat, offset := (half bs (o + 8)).toNat, p1 := half bs (o + 10)
                 p2 := half bs (o + 12), p3 := half bs (o + 14) })
         ∧ planActions bs = (List.range (half bs 2).toNat).map (planAction bs)
         ∧ (∀ a : ActionRecord, a.op = operationOf a.kind a.opEdge a.maxCaptures a.p1 a.p2 a.p3)
         ∧ readRequest bs =
             { kind := byteAt bs 8, line := byteAt bs 9, opEdge := byteAt bs 10, maxCaptures := byteAt bs 11
               priority := byteAt bs 12, atOnce := byteAt bs 13, deadline := half bs 14, earliest := word bs 16
               p1 := half bs 20, p2 := half bs 22, p3 := half bs 24 }
         ∧ (∀ r : Request, r.op = operationOf r.kind r.opEdge r.maxCaptures r.p1 r.p2 r.p3))
    ∧ [EngineState.idle, .loading, .armed, .syncWait, .running, .held, .halted].map EngineState.code
        = [0, 1, 2, 3, 4, 5, 6]
    ∧ [CmdOutcome.none, .accepted, .done, .failed, .overridden, .refusedCode, .refusedBusy, .refusedState].map
        CmdOutcome.code = [0, 1, 2, 3, 4, 5, 6, 7]
    ∧ [CmdReason.none, .setupBoard, .setupJournal, .setupTimeout, .setupHealth, .setupSync, .noPlan, .planRejected, .bus,
        .halted].map CmdReason.code = [0, 1, 2, 3, 4, 5, 6, 7, 8, 9]
    ∧ [PlanStatusCode.none, .filling, .pending, .current, .rejected, .superseded, .busFailed].map PlanStatusCode.code
        = [0, 1, 2, 3, 4, 5, 6]
    ∧ [PlanDetail.none, .badFormat, .badCheck, .badGeometry, .tooMany, .badOrder, .badFilter, .badParam, .overrunsSlot,
        .lineMode, .overlap, .busError, .timeout].map PlanDetail.code = [0, 1, 2, 3, 4, 5, 6, 7, 8, 9, 10, 16, 17]
    ∧ [OutcomeDetail.none, .cancelled, .badKind, .badLine, .badParam, .lineMode, .tooLong].map OutcomeDetail.code
        = [0, 1, 2, 3, 4, 5, 6]
    ∧ [StateWord.empty, .posted, .taken, .cancelReq, .done, .expired, .cancelled, .rejected, .cancelLate].map StateWord.code
        = [0, 1, 2, 3, 4, 5, 6, 7, 8]
    ∧ [Edge.rise, .fall].map Edge.code = [0, 1] ∧ [StateCause.command, .health].map StateCause.code = [0, 1]
    ∧ [Ending.none, .done, .expired, .cancelled, .rejected].map Ending.word
        = [.empty, .done, .expired, .cancelled, .rejected]
end

