-- ==== Sys2Proof/Laws/State.lean ====
section
/-! SUPPORT. For each operation that is one update of the state, one lemma for each field it leaves. -/

namespace Sys2Proof.Machine

@[simp] theorem offer_control (bs : List RecordBody) (st : Word × Nat) (s : State) : (offer bs st s).control = s.control := rfl

@[simp] theorem offer_timer (bs : List RecordBody) (st : Word × Nat) (s : State) : (offer bs st s).timer = s.timer := rfl

@[simp] theorem offer_cells (bs : List RecordBody) (st : Word × Nat) (s : State) : (offer bs st s).cells = s.cells := rfl

@[simp] theorem offer_store (bs : List RecordBody) (st : Word × Nat) (s : State) : (offer bs st s).store = s.store := rfl

@[simp] theorem offer_static (bs : List RecordBody) (st : Word × Nat) (s : State) : (offer bs st s).static = s.static := rfl

@[simp] theorem offer_loader (bs : List RecordBody) (st : Word × Nat) (s : State) : (offer bs st s).loader = s.loader := rfl

@[simp] theorem offer_queue (bs : List RecordBody) (st : Word × Nat) (s : State) : (offer bs st s).queue = s.queue := rfl

@[simp] theorem offer_writer (bs : List RecordBody) (st : Word × Nat) (s : State) : (offer bs st s).writer = s.writer := rfl

@[simp] theorem offer_service (bs : List RecordBody) (st : Word × Nat) (s : State) : (offer bs st s).service = s.service := rfl

@[simp] theorem offer_port (bs : List RecordBody) (st : Word × Nat) (s : State) : (offer bs st s).port = s.port := rfl

@[simp] theorem offer_outside (bs : List RecordBody) (st : Word × Nat) (s : State) : (offer bs st s).outside = s.outside := rfl

@[simp] theorem offer_now (bs : List RecordBody) (st : Word × Nat) (s : State) : (offer bs st s).now = s.now := rfl

@[simp] theorem offer_choices (bs : List RecordBody) (st : Word × Nat) (s : State) : (offer bs st s).choices = s.choices := rfl

@[simp] theorem offer_pending (bs : List RecordBody) (st : Word × Nat) (s : State) : (offer bs st s).pending = s.pending := rfl

@[simp] theorem requestService_control (k : TransferKind) (o n : Nat) (s : State) : (requestService k o n s).control = s.control := rfl

@[simp] theorem requestService_timer (k : TransferKind) (o n : Nat) (s : State) : (requestService k o n s).timer = s.timer := rfl

@[simp] theorem requestService_cells (k : TransferKind) (o n : Nat) (s : State) : (requestService k o n s).cells = s.cells := rfl

@[simp] theorem requestService_store (k : TransferKind) (o n : Nat) (s : State) : (requestService k o n s).store = s.store := rfl

@[simp] theorem requestService_static (k : TransferKind) (o n : Nat) (s : State) : (requestService k o n s).static = s.static := rfl

@[simp] theorem requestService_loader (k : TransferKind) (o n : Nat) (s : State) : (requestService k o n s).loader = s.loader := rfl

@[simp] theorem requestService_queue (k : TransferKind) (o n : Nat) (s : State) : (requestService k o n s).queue = s.queue := rfl

@[simp] theorem requestService_staging (k : TransferKind) (o n : Nat) (s : State) : (requestService k o n s).staging = s.staging := rfl

@[simp] theorem requestService_writer (k : TransferKind) (o n : Nat) (s : State) : (requestService k o n s).writer = s.writer := rfl

@[simp] theorem requestService_service (k : TransferKind) (o n : Nat) (s : State) : (requestService k o n s).service = s.service := rfl

@[simp] theorem requestService_health (k : TransferKind) (o n : Nat) (s : State) : (requestService k o n s).health = s.health := rfl

@[simp] theorem requestService_outside (k : TransferKind) (o n : Nat) (s : State) : (requestService k o n s).outside = s.outside := rfl

@[simp] theorem requestService_now (k : TransferKind) (o n : Nat) (s : State) : (requestService k o n s).now = s.now := rfl

@[simp] theorem requestService_choices (k : TransferKind) (o n : Nat) (s : State) : (requestService k o n s).choices = s.choices := rfl

@[simp] theorem requestService_pending (k : TransferKind) (o n : Nat) (s : State) : (requestService k o n s).pending = s.pending := rfl

@[simp] theorem pollWriter_control (s : State) : (pollWriter s).control = s.control := rfl

@[simp] theorem pollWriter_timer (s : State) : (pollWriter s).timer = s.timer := rfl

@[simp] theorem pollWriter_cells (s : State) : (pollWriter s).cells = s.cells := rfl

@[simp] theorem pollWriter_store (s : State) : (pollWriter s).store = s.store := rfl

@[simp] theorem pollWriter_static (s : State) : (pollWriter s).static = s.static := rfl

@[simp] theorem pollWriter_loader (s : State) : (pollWriter s).loader = s.loader := rfl

@[simp] theorem pollWriter_queue (s : State) : (pollWriter s).queue = s.queue := rfl

@[simp] theorem pollWriter_staging (s : State) : (pollWriter s).staging = s.staging := rfl

@[simp] theorem pollWriter_writer (s : State) : (pollWriter s).writer = s.writer := rfl

@[simp] theorem pollWriter_service (s : State) : (pollWriter s).service = s.service := rfl

@[simp] theorem pollWriter_health (s : State) : (pollWriter s).health = s.health := rfl

@[simp] theorem pollWriter_outside (s : State) : (pollWriter s).outside = s.outside := rfl

@[simp] theorem pollWriter_now (s : State) : (pollWriter s).now = s.now := rfl

@[simp] theorem pollWriter_choices (s : State) : (pollWriter s).choices = s.choices := rfl

@[simp] theorem pollWriter_pending (s : State) : (pollWriter s).pending = s.pending := rfl

@[simp] theorem grantTo_control (q : Requester) (s : State) : (grantTo q s).control = s.control := rfl

@[simp] theorem grantTo_timer (q : Requester) (s : State) : (grantTo q s).timer = s.timer := rfl

@[simp] theorem grantTo_cells (q : Requester) (s : State) : (grantTo q s).cells = s.cells := rfl

@[simp] theorem grantTo_store (q : Requester) (s : State) : (grantTo q s).store = s.store := rfl

@[simp] theorem grantTo_static (q : Requester) (s : State) : (grantTo q s).static = s.static := rfl

@[simp] theorem grantTo_loader (q : Requester) (s : State) : (grantTo q s).loader = s.loader := rfl

@[simp] theorem grantTo_queue (q : Requester) (s : State) : (grantTo q s).queue = s.queue := rfl

@[simp] theorem grantTo_staging (q : Requester) (s : State) : (grantTo q s).staging = s.staging := rfl

@[simp] theorem grantTo_writer (q : Requester) (s : State) : (grantTo q s).writer = s.writer := rfl

@[simp] theorem grantTo_health (q : Requester) (s : State) : (grantTo q s).health = s.health := rfl

@[simp] theorem grantTo_outside (q : Requester) (s : State) : (grantTo q s).outside = s.outside := rfl

@[simp] theorem grantTo_now (q : Requester) (s : State) : (grantTo q s).now = s.now := rfl

@[simp] theorem grantTo_choices (q : Requester) (s : State) : (grantTo q s).choices = s.choices := rfl

@[simp] theorem grantTo_pending (q : Requester) (s : State) : (grantTo q s).pending = s.pending := rfl

@[simp] theorem loadFails_timer (r : CmdReason) (d : PlanDetail) (s : State) : (loadFails r d s).timer = s.timer := rfl

@[simp] theorem loadFails_cells (r : CmdReason) (d : PlanDetail) (s : State) : (loadFails r d s).cells = s.cells := rfl

@[simp] theorem loadFails_store (r : CmdReason) (d : PlanDetail) (s : State) : (loadFails r d s).store = s.store := rfl

@[simp] theorem loadFails_static (r : CmdReason) (d : PlanDetail) (s : State) : (loadFails r d s).static = s.static := rfl

@[simp] theorem loadFails_loader (r : CmdReason) (d : PlanDetail) (s : State) : (loadFails r d s).loader = s.loader := rfl

@[simp] theorem loadFails_queue (r : CmdReason) (d : PlanDetail) (s : State) : (loadFails r d s).queue = s.queue := rfl

@[simp] theorem loadFails_staging (r : CmdReason) (d : PlanDetail) (s : State) : (loadFails r d s).staging = s.staging := rfl

@[simp] theorem loadFails_writer (r : CmdReason) (d : PlanDetail) (s : State) : (loadFails r d s).writer = s.writer := rfl

@[simp] theorem loadFails_service (r : CmdReason) (d : PlanDetail) (s : State) : (loadFails r d s).service = s.service := rfl

@[simp] theorem loadFails_port (r : CmdReason) (d : PlanDetail) (s : State) : (loadFails r d s).port = s.port := rfl

@[simp] theorem loadFails_health (r : CmdReason) (d : PlanDetail) (s : State) : (loadFails r d s).health = s.health := rfl

@[simp] theorem loadFails_outside (r : CmdReason) (d : PlanDetail) (s : State) : (loadFails r d s).outside = s.outside := rfl

@[simp] theorem loadFails_now (r : CmdReason) (d : PlanDetail) (s : State) : (loadFails r d s).now = s.now := rfl

@[simp] theorem loadFails_choices (r : CmdReason) (d : PlanDetail) (s : State) : (loadFails r d s).choices = s.choices := rfl

@[simp] theorem loadFails_pending (r : CmdReason) (d : PlanDetail) (s : State) : (loadFails r d s).pending = s.pending := rfl

@[simp] theorem planPending_control (s : State) : (planPending s).control = s.control := rfl

@[simp] theorem planPending_timer (s : State) : (planPending s).timer = s.timer := rfl

@[simp] theorem planPending_cells (s : State) : (planPending s).cells = s.cells := rfl

@[simp] theorem planPending_static (s : State) : (planPending s).static = s.static := rfl

@[simp] theorem planPending_queue (s : State) : (planPending s).queue = s.queue := rfl

@[simp] theorem planPending_staging (s : State) : (planPending s).staging = s.staging := rfl

@[simp] theorem planPending_writer (s : State) : (planPending s).writer = s.writer := rfl

@[simp] theorem planPending_service (s : State) : (planPending s).service = s.service := rfl

@[simp] theorem planPending_port (s : State) : (planPending s).port = s.port := rfl

@[simp] theorem planPending_health (s : State) : (planPending s).health = s.health := rfl

@[simp] theorem planPending_outside (s : State) : (planPending s).outside = s.outside := rfl

@[simp] theorem planPending_now (s : State) : (planPending s).now = s.now := rfl

@[simp] theorem planPending_choices (s : State) : (planPending s).choices = s.choices := rfl

@[simp] theorem planPending_pending (s : State) : (planPending s).pending = s.pending := rfl

@[simp] theorem planCurrent_timer (s : State) : (planCurrent s).timer = s.timer := rfl

@[simp] theorem planCurrent_cells (s : State) : (planCurrent s).cells = s.cells := rfl

@[simp] theorem planCurrent_static (s : State) : (planCurrent s).static = s.static := rfl

@[simp] theorem planCurrent_queue (s : State) : (planCurrent s).queue = s.queue := rfl

@[simp] theorem planCurrent_staging (s : State) : (planCurrent s).staging = s.staging := rfl

@[simp] theorem planCurrent_writer (s : State) : (planCurrent s).writer = s.writer := rfl

@[simp] theorem planCurrent_health (s : State) : (planCurrent s).health = s.health := rfl

@[simp] theorem planCurrent_outside (s : State) : (planCurrent s).outside = s.outside := rfl

@[simp] theorem planCurrent_now (s : State) : (planCurrent s).now = s.now := rfl

@[simp] theorem planCurrent_choices (s : State) : (planCurrent s).choices = s.choices := rfl

@[simp] theorem planCurrent_pending (s : State) : (planCurrent s).pending = s.pending := rfl

@[simp] theorem takePlanBytes_control (bs : List Byte) (s : State) : (takePlanBytes bs s).control = s.control := rfl

@[simp] theorem takePlanBytes_timer (bs : List Byte) (s : State) : (takePlanBytes bs s).timer = s.timer := rfl

@[simp] theorem takePlanBytes_cells (bs : List Byte) (s : State) : (takePlanBytes bs s).cells = s.cells := rfl

@[simp] theorem takePlanBytes_static (bs : List Byte) (s : State) : (takePlanBytes bs s).static = s.static := rfl

@[simp] theorem takePlanBytes_queue (bs : List Byte) (s : State) : (takePlanBytes bs s).queue = s.queue := rfl

@[simp] theorem takePlanBytes_staging (bs : List Byte) (s : State) : (takePlanBytes bs s).staging = s.staging := rfl

@[simp] theorem takePlanBytes_writer (bs : List Byte) (s : State) : (takePlanBytes bs s).writer = s.writer := rfl

@[simp] theorem takePlanBytes_service (bs : List Byte) (s : State) : (takePlanBytes bs s).service = s.service := rfl

@[simp] theorem takePlanBytes_port (bs : List Byte) (s : State) : (takePlanBytes bs s).port = s.port := rfl

@[simp] theorem takePlanBytes_health (bs : List Byte) (s : State) : (takePlanBytes bs s).health = s.health := rfl

@[simp] theorem takePlanBytes_outside (bs : List Byte) (s : State) : (takePlanBytes bs s).outside = s.outside := rfl

@[simp] theorem takePlanBytes_now (bs : List Byte) (s : State) : (takePlanBytes bs s).now = s.now := rfl

@[simp] theorem takePlanBytes_choices (bs : List Byte) (s : State) : (takePlanBytes bs s).choices = s.choices := rfl

@[simp] theorem takePlanBytes_pending (bs : List Byte) (s : State) : (takePlanBytes bs s).pending = s.pending := rfl

@[simp] theorem startPass_control (s : State) : (startPass s).control = s.control := rfl

@[simp] theorem startPass_timer (s : State) : (startPass s).timer = s.timer := rfl

@[simp] theorem startPass_cells (s : State) : (startPass s).cells = s.cells := rfl

@[simp] theorem startPass_store (s : State) : (startPass s).store = s.store := rfl

@[simp] theorem startPass_static (s : State) : (startPass s).static = s.static := rfl

@[simp] theorem startPass_loader (s : State) : (startPass s).loader = s.loader := rfl

@[simp] theorem startPass_queue (s : State) : (startPass s).queue = s.queue := rfl

@[simp] theorem startPass_staging (s : State) : (startPass s).staging = s.staging := rfl

@[simp] theorem startPass_writer (s : State) : (startPass s).writer = s.writer := rfl

@[simp] theorem startPass_health (s : State) : (startPass s).health = s.health := rfl

@[simp] theorem startPass_outside (s : State) : (startPass s).outside = s.outside := rfl

@[simp] theorem startPass_now (s : State) : (startPass s).now = s.now := rfl

@[simp] theorem startPass_choices (s : State) : (startPass s).choices = s.choices := rfl

@[simp] theorem startPass_pending (s : State) : (startPass s).pending = s.pending := rfl

@[simp] theorem beginStatus_control (s : State) : (beginStatus s).control = s.control := rfl

@[simp] theorem beginStatus_timer (s : State) : (beginStatus s).timer = s.timer := rfl

@[simp] theorem beginStatus_cells (s : State) : (beginStatus s).cells = s.cells := rfl

@[simp] theorem beginStatus_store (s : State) : (beginStatus s).store = s.store := rfl

@[simp] theorem beginStatus_static (s : State) : (beginStatus s).static = s.static := rfl

@[simp] theorem beginStatus_loader (s : State) : (beginStatus s).loader = s.loader := rfl

@[simp] theorem beginStatus_queue (s : State) : (beginStatus s).queue = s.queue := rfl

@[simp] theorem beginStatus_staging (s : State) : (beginStatus s).staging = s.staging := rfl

@[simp] theorem beginStatus_writer (s : State) : (beginStatus s).writer = s.writer := rfl

@[simp] theorem beginStatus_health (s : State) : (beginStatus s).health = s.health := rfl

@[simp] theorem beginStatus_outside (s : State) : (beginStatus s).outside = s.outside := rfl

@[simp] theorem beginStatus_now (s : State) : (beginStatus s).now = s.now := rfl

@[simp] theorem beginStatus_choices (s : State) : (beginStatus s).choices = s.choices := rfl

@[simp] theorem beginStatus_pending (s : State) : (beginStatus s).pending = s.pending := rfl

@[simp] theorem passEvaluations_timer (s : State) : (passEvaluations s).timer = s.timer := rfl

@[simp] theorem passEvaluations_cells (s : State) : (passEvaluations s).cells = s.cells := rfl

@[simp] theorem passEvaluations_store (s : State) : (passEvaluations s).store = s.store := rfl

@[simp] theorem passEvaluations_static (s : State) : (passEvaluations s).static = s.static := rfl

@[simp] theorem passEvaluations_loader (s : State) : (passEvaluations s).loader = s.loader := rfl

@[simp] theorem passEvaluations_queue (s : State) : (passEvaluations s).queue = s.queue := rfl

@[simp] theorem passEvaluations_staging (s : State) : (passEvaluations s).staging = s.staging := rfl

@[simp] theorem passEvaluations_writer (s : State) : (passEvaluations s).writer = s.writer := rfl

@[simp] theorem passEvaluations_service (s : State) : (passEvaluations s).service = s.service := rfl

@[simp] theorem passEvaluations_port (s : State) : (passEvaluations s).port = s.port := rfl

@[simp] theorem passEvaluations_health (s : State) : (passEvaluations s).health = s.health := rfl

@[simp] theorem passEvaluations_outside (s : State) : (passEvaluations s).outside = s.outside := rfl

@[simp] theorem passEvaluations_now (s : State) : (passEvaluations s).now = s.now := rfl

@[simp] theorem passEvaluations_choices (s : State) : (passEvaluations s).choices = s.choices := rfl

@[simp] theorem passEvaluations_pending (s : State) : (passEvaluations s).pending = s.pending := rfl

@[simp] theorem postStatus_control (s : State) : (postStatus s).control = s.control := rfl

@[simp] theorem postStatus_timer (s : State) : (postStatus s).timer = s.timer := rfl

@[simp] theorem postStatus_cells (s : State) : (postStatus s).cells = s.cells := rfl

@[simp] theorem postStatus_store (s : State) : (postStatus s).store = s.store := rfl

@[simp] theorem postStatus_static (s : State) : (postStatus s).static = s.static := rfl

@[simp] theorem postStatus_queue (s : State) : (postStatus s).queue = s.queue := rfl

@[simp] theorem postStatus_staging (s : State) : (postStatus s).staging = s.staging := rfl

@[simp] theorem postStatus_writer (s : State) : (postStatus s).writer = s.writer := rfl

@[simp] theorem postStatus_service (s : State) : (postStatus s).service = s.service := rfl

@[simp] theorem postStatus_port (s : State) : (postStatus s).port = s.port := rfl

@[simp] theorem postStatus_health (s : State) : (postStatus s).health = s.health := rfl

@[simp] theorem postStatus_outside (s : State) : (postStatus s).outside = s.outside := rfl

@[simp] theorem postStatus_now (s : State) : (postStatus s).now = s.now := rfl

@[simp] theorem postStatus_choices (s : State) : (postStatus s).choices = s.choices := rfl

@[simp] theorem postStatus_pending (s : State) : (postStatus s).pending = s.pending := rfl

@[simp] theorem loadSucceeds_timer (s : State) : (loadSucceeds s).timer = s.timer := rfl

@[simp] theorem loadSucceeds_store (s : State) : (loadSucceeds s).store = s.store := rfl

@[simp] theorem loadSucceeds_static (s : State) : (loadSucceeds s).static = s.static := rfl

@[simp] theorem loadSucceeds_loader (s : State) : (loadSucceeds s).loader = s.loader := rfl

@[simp] theorem loadSucceeds_queue (s : State) : (loadSucceeds s).queue = s.queue := rfl

@[simp] theorem loadSucceeds_staging (s : State) : (loadSucceeds s).staging = s.staging := rfl

@[simp] theorem loadSucceeds_port (s : State) : (loadSucceeds s).port = s.port := rfl

@[simp] theorem loadSucceeds_health (s : State) : (loadSucceeds s).health = s.health := rfl

@[simp] theorem loadSucceeds_outside (s : State) : (loadSucceeds s).outside = s.outside := rfl

@[simp] theorem loadSucceeds_now (s : State) : (loadSucceeds s).now = s.now := rfl

@[simp] theorem loadSucceeds_choices (s : State) : (loadSucceeds s).choices = s.choices := rfl

@[simp] theorem loadSucceeds_pending (s : State) : (loadSucceeds s).pending = s.pending := rfl

@[simp] theorem requestResult_control (i : Nat) (r : ResultFields) (w : StateWord) (s : State) : (requestResult i r w s).control = s.control := rfl

@[simp] theorem requestResult_timer (i : Nat) (r : ResultFields) (w : StateWord) (s : State) : (requestResult i r w s).timer = s.timer := rfl

@[simp] theorem requestResult_cells (i : Nat) (r : ResultFields) (w : StateWord) (s : State) : (requestResult i r w s).cells = s.cells := rfl

@[simp] theorem requestResult_store (i : Nat) (r : ResultFields) (w : StateWord) (s : State) : (requestResult i r w s).store = s.store := rfl

@[simp] theorem requestResult_static (i : Nat) (r : ResultFields) (w : StateWord) (s : State) : (requestResult i r w s).static = s.static := rfl

@[simp] theorem requestResult_loader (i : Nat) (r : ResultFields) (w : StateWord) (s : State) : (requestResult i r w s).loader = s.loader := rfl

@[simp] theorem requestResult_queue (i : Nat) (r : ResultFields) (w : StateWord) (s : State) : (requestResult i r w s).queue = s.queue := rfl

@[simp] theorem requestResult_staging (i : Nat) (r : ResultFields) (w : StateWord) (s : State) : (requestResult i r w s).staging = s.staging := rfl

@[simp] theorem requestResult_writer (i : Nat) (r : ResultFields) (w : StateWord) (s : State) : (requestResult i r w s).writer = s.writer := rfl

@[simp] theorem requestResult_service (i : Nat) (r : ResultFields) (w : StateWord) (s : State) : (requestResult i r w s).service = s.service := rfl

@[simp] theorem requestResult_health (i : Nat) (r : ResultFields) (w : StateWord) (s : State) : (requestResult i r w s).health = s.health := rfl

@[simp] theorem requestResult_outside (i : Nat) (r : ResultFields) (w : StateWord) (s : State) : (requestResult i r w s).outside = s.outside := rfl

@[simp] theorem requestResult_now (i : Nat) (r : ResultFields) (w : StateWord) (s : State) : (requestResult i r w s).now = s.now := rfl

@[simp] theorem requestResult_choices (i : Nat) (r : ResultFields) (w : StateWord) (s : State) : (requestResult i r w s).choices = s.choices := rfl

@[simp] theorem requestResult_pending (i : Nat) (r : ResultFields) (w : StateWord) (s : State) : (requestResult i r w s).pending = s.pending := rfl

@[simp] theorem requestState_control (i : Nat) (w : StateWord) (s : State) : (requestState i w s).control = s.control := rfl

@[simp] theorem requestState_timer (i : Nat) (w : StateWord) (s : State) : (requestState i w s).timer = s.timer := rfl

@[simp] theorem requestState_cells (i : Nat) (w : StateWord) (s : State) : (requestState i w s).cells = s.cells := rfl

@[simp] theorem requestState_store (i : Nat) (w : StateWord) (s : State) : (requestState i w s).store = s.store := rfl

@[simp] theorem requestState_static (i : Nat) (w : StateWord) (s : State) : (requestState i w s).static = s.static := rfl

@[simp] theorem requestState_loader (i : Nat) (w : StateWord) (s : State) : (requestState i w s).loader = s.loader := rfl

@[simp] theorem requestState_queue (i : Nat) (w : StateWord) (s : State) : (requestState i w s).queue = s.queue := rfl

@[simp] theorem requestState_staging (i : Nat) (w : StateWord) (s : State) : (requestState i w s).staging = s.staging := rfl

@[simp] theorem requestState_writer (i : Nat) (w : StateWord) (s : State) : (requestState i w s).writer = s.writer := rfl

@[simp] theorem requestState_service (i : Nat) (w : StateWord) (s : State) : (requestState i w s).service = s.service := rfl

@[simp] theorem requestState_health (i : Nat) (w : StateWord) (s : State) : (requestState i w s).health = s.health := rfl

@[simp] theorem requestState_outside (i : Nat) (w : StateWord) (s : State) : (requestState i w s).outside = s.outside := rfl

@[simp] theorem requestState_now (i : Nat) (w : StateWord) (s : State) : (requestState i w s).now = s.now := rfl

@[simp] theorem requestState_choices (i : Nat) (w : StateWord) (s : State) : (requestState i w s).choices = s.choices := rfl

@[simp] theorem requestState_pending (i : Nat) (w : StateWord) (s : State) : (requestState i w s).pending = s.pending := rfl

@[simp] theorem noteFinal_timer (w : StateWord) (s : State) : (noteFinal w s).timer = s.timer := rfl

@[simp] theorem noteFinal_cells (w : StateWord) (s : State) : (noteFinal w s).cells = s.cells := rfl

@[simp] theorem noteFinal_store (w : StateWord) (s : State) : (noteFinal w s).store = s.store := rfl

@[simp] theorem noteFinal_static (w : StateWord) (s : State) : (noteFinal w s).static = s.static := rfl

@[simp] theorem noteFinal_loader (w : StateWord) (s : State) : (noteFinal w s).loader = s.loader := rfl

@[simp] theorem noteFinal_queue (w : StateWord) (s : State) : (noteFinal w s).queue = s.queue := rfl

@[simp] theorem noteFinal_staging (w : StateWord) (s : State) : (noteFinal w s).staging = s.staging := rfl

@[simp] theorem noteFinal_writer (w : StateWord) (s : State) : (noteFinal w s).writer = s.writer := rfl

@[simp] theorem noteFinal_port (w : StateWord) (s : State) : (noteFinal w s).port = s.port := rfl

@[simp] theorem noteFinal_health (w : StateWord) (s : State) : (noteFinal w s).health = s.health := rfl

@[simp] theorem noteFinal_outside (w : StateWord) (s : State) : (noteFinal w s).outside = s.outside := rfl

@[simp] theorem noteFinal_now (w : StateWord) (s : State) : (noteFinal w s).now = s.now := rfl

@[simp] theorem noteFinal_choices (w : StateWord) (s : State) : (noteFinal w s).choices = s.choices := rfl

@[simp] theorem noteFinal_pending (w : StateWord) (s : State) : (noteFinal w s).pending = s.pending := rfl

@[simp] theorem removeAnswered_control (i : Nat) (w : StateWord) (s : State) : (removeAnswered i w s).control = s.control := rfl

@[simp] theorem removeAnswered_timer (i : Nat) (w : StateWord) (s : State) : (removeAnswered i w s).timer = s.timer := rfl

@[simp] theorem removeAnswered_cells (i : Nat) (w : StateWord) (s : State) : (removeAnswered i w s).cells = s.cells := rfl

@[simp] theorem removeAnswered_store (i : Nat) (w : StateWord) (s : State) : (removeAnswered i w s).store = s.store := rfl

@[simp] theorem removeAnswered_static (i : Nat) (w : StateWord) (s : State) : (removeAnswered i w s).static = s.static := rfl

@[simp] theorem removeAnswered_loader (i : Nat) (w : StateWord) (s : State) : (removeAnswered i w s).loader = s.loader := rfl

@[simp] theorem removeAnswered_staging (i : Nat) (w : StateWord) (s : State) : (removeAnswered i w s).staging = s.staging := rfl

@[simp] theorem removeAnswered_writer (i : Nat) (w : StateWord) (s : State) : (removeAnswered i w s).writer = s.writer := rfl

@[simp] theorem removeAnswered_service (i : Nat) (w : StateWord) (s : State) : (removeAnswered i w s).service = s.service := rfl

@[simp] theorem removeAnswered_port (i : Nat) (w : StateWord) (s : State) : (removeAnswered i w s).port = s.port := rfl

@[simp] theorem removeAnswered_health (i : Nat) (w : StateWord) (s : State) : (removeAnswered i w s).health = s.health := rfl

@[simp] theorem removeAnswered_outside (i : Nat) (w : StateWord) (s : State) : (removeAnswered i w s).outside = s.outside := rfl

@[simp] theorem removeAnswered_now (i : Nat) (w : StateWord) (s : State) : (removeAnswered i w s).now = s.now := rfl

@[simp] theorem removeAnswered_choices (i : Nat) (w : StateWord) (s : State) : (removeAnswered i w s).choices = s.choices := rfl

@[simp] theorem removeAnswered_pending (i : Nat) (w : StateWord) (s : State) : (removeAnswered i w s).pending = s.pending := rfl

@[simp] theorem serviceFrameEnd_timer (s : State) : (serviceFrameEnd s).timer = s.timer := rfl

@[simp] theorem serviceFrameEnd_cells (s : State) : (serviceFrameEnd s).cells = s.cells := rfl

@[simp] theorem serviceFrameEnd_store (s : State) : (serviceFrameEnd s).store = s.store := rfl

@[simp] theorem serviceFrameEnd_static (s : State) : (serviceFrameEnd s).static = s.static := rfl

@[simp] theorem serviceFrameEnd_loader (s : State) : (serviceFrameEnd s).loader = s.loader := rfl

@[simp] theorem serviceFrameEnd_queue (s : State) : (serviceFrameEnd s).queue = s.queue := rfl

@[simp] theorem serviceFrameEnd_staging (s : State) : (serviceFrameEnd s).staging = s.staging := rfl

@[simp] theorem serviceFrameEnd_writer (s : State) : (serviceFrameEnd s).writer = s.writer := rfl

@[simp] theorem serviceFrameEnd_outside (s : State) : (serviceFrameEnd s).outside = s.outside := rfl

@[simp] theorem serviceFrameEnd_now (s : State) : (serviceFrameEnd s).now = s.now := rfl

@[simp] theorem serviceFrameEnd_choices (s : State) : (serviceFrameEnd s).choices = s.choices := rfl

@[simp] theorem serviceFrameEnd_pending (s : State) : (serviceFrameEnd s).pending = s.pending := rfl

@[simp] theorem frameStart_writer (c : Option RecordBody) (r : Bool) (s : State) : (frameStart c r s).writer = s.writer := rfl

@[simp] theorem frameStart_service (c : Option RecordBody) (r : Bool) (s : State) : (frameStart c r s).service = s.service := rfl

@[simp] theorem frameStart_port (c : Option RecordBody) (r : Bool) (s : State) : (frameStart c r s).port = s.port := rfl

@[simp] theorem frameStart_outside (c : Option RecordBody) (r : Bool) (s : State) : (frameStart c r s).outside = s.outside := rfl

@[simp] theorem frameStart_now (c : Option RecordBody) (r : Bool) (s : State) : (frameStart c r s).now = s.now := rfl

@[simp] theorem frameStart_choices (c : Option RecordBody) (r : Bool) (s : State) : (frameStart c r s).choices = s.choices := rfl

@[simp] theorem frameStart_pending (c : Option RecordBody) (r : Bool) (s : State) : (frameStart c r s).pending = s.pending := rfl

@[simp] theorem closeFrame_store (m : Bool) (s : State) : (closeFrame m s).store = s.store := rfl

@[simp] theorem closeFrame_static (m : Bool) (s : State) : (closeFrame m s).static = s.static := rfl

@[simp] theorem closeFrame_loader (m : Bool) (s : State) : (closeFrame m s).loader = s.loader := rfl

@[simp] theorem closeFrame_staging (m : Bool) (s : State) : (closeFrame m s).staging = s.staging := rfl

@[simp] theorem closeFrame_writer (m : Bool) (s : State) : (closeFrame m s).writer = s.writer := rfl

@[simp] theorem closeFrame_outside (m : Bool) (s : State) : (closeFrame m s).outside = s.outside := rfl

@[simp] theorem closeFrame_now (m : Bool) (s : State) : (closeFrame m s).now = s.now := rfl

@[simp] theorem closeFrame_choices (m : Bool) (s : State) : (closeFrame m s).choices = s.choices := rfl

@[simp] theorem closeFrame_pending (m : Bool) (s : State) : (closeFrame m s).pending = s.pending := rfl

@[simp] theorem scoreFrame_control (s : State) : (scoreFrame s).control = s.control := rfl

@[simp] theorem scoreFrame_timer (s : State) : (scoreFrame s).timer = s.timer := rfl

@[simp] theorem scoreFrame_cells (s : State) : (scoreFrame s).cells = s.cells := rfl

@[simp] theorem scoreFrame_store (s : State) : (scoreFrame s).store = s.store := rfl

@[simp] theorem scoreFrame_static (s : State) : (scoreFrame s).static = s.static := rfl

@[simp] theorem scoreFrame_loader (s : State) : (scoreFrame s).loader = s.loader := rfl

@[simp] theorem scoreFrame_queue (s : State) : (scoreFrame s).queue = s.queue := rfl

@[simp] theorem scoreFrame_staging (s : State) : (scoreFrame s).staging = s.staging := rfl

@[simp] theorem scoreFrame_writer (s : State) : (scoreFrame s).writer = s.writer := rfl

@[simp] theorem scoreFrame_service (s : State) : (scoreFrame s).service = s.service := rfl

@[simp] theorem scoreFrame_port (s : State) : (scoreFrame s).port = s.port := rfl

@[simp] theorem scoreFrame_outside (s : State) : (scoreFrame s).outside = s.outside := rfl

@[simp] theorem scoreFrame_now (s : State) : (scoreFrame s).now = s.now := rfl

@[simp] theorem scoreFrame_choices (s : State) : (scoreFrame s).choices = s.choices := rfl

@[simp] theorem scoreFrame_pending (s : State) : (scoreFrame s).pending = s.pending := rfl

@[simp] theorem stopCompletes_control (c : Option RecordBody) (s : State) : (stopCompletes c s).control = s.control := rfl

@[simp] theorem stopCompletes_writer (c : Option RecordBody) (s : State) : (stopCompletes c s).writer = s.writer := rfl

@[simp] theorem stopCompletes_port (c : Option RecordBody) (s : State) : (stopCompletes c s).port = s.port := rfl

@[simp] theorem stopCompletes_outside (c : Option RecordBody) (s : State) : (stopCompletes c s).outside = s.outside := rfl

@[simp] theorem stopCompletes_now (c : Option RecordBody) (s : State) : (stopCompletes c s).now = s.now := rfl

@[simp] theorem stopCompletes_choices (c : Option RecordBody) (s : State) : (stopCompletes c s).choices = s.choices := rfl

@[simp] theorem stopCompletes_pending (c : Option RecordBody) (s : State) : (stopCompletes c s).pending = s.pending := rfl

@[simp] theorem verdictHalts_control (c : Option RecordBody) (s : State) : (verdictHalts c s).control = s.control := rfl

@[simp] theorem verdictHalts_cells (c : Option RecordBody) (s : State) : (verdictHalts c s).cells = s.cells := rfl

@[simp] theorem verdictHalts_writer (c : Option RecordBody) (s : State) : (verdictHalts c s).writer = s.writer := rfl

@[simp] theorem verdictHalts_outside (c : Option RecordBody) (s : State) : (verdictHalts c s).outside = s.outside := rfl

@[simp] theorem verdictHalts_now (c : Option RecordBody) (s : State) : (verdictHalts c s).now = s.now := rfl

@[simp] theorem verdictHalts_choices (c : Option RecordBody) (s : State) : (verdictHalts c s).choices = s.choices := rfl

@[simp] theorem verdictHalts_pending (c : Option RecordBody) (s : State) : (verdictHalts c s).pending = s.pending := rfl

@[simp] theorem startShared_timer (e : EngineState) (s : State) : (startShared e s).timer = s.timer := rfl

@[simp] theorem startShared_cells (e : EngineState) (s : State) : (startShared e s).cells = s.cells := rfl

@[simp] theorem startShared_store (e : EngineState) (s : State) : (startShared e s).store = s.store := rfl

@[simp] theorem startShared_static (e : EngineState) (s : State) : (startShared e s).static = s.static := rfl

@[simp] theorem startShared_loader (e : EngineState) (s : State) : (startShared e s).loader = s.loader := rfl

@[simp] theorem startShared_staging (e : EngineState) (s : State) : (startShared e s).staging = s.staging := rfl

@[simp] theorem startShared_writer (e : EngineState) (s : State) : (startShared e s).writer = s.writer := rfl

@[simp] theorem startShared_outside (e : EngineState) (s : State) : (startShared e s).outside = s.outside := rfl

@[simp] theorem startShared_now (e : EngineState) (s : State) : (startShared e s).now = s.now := rfl

@[simp] theorem startShared_choices (e : EngineState) (s : State) : (startShared e s).choices = s.choices := rfl

@[simp] theorem startShared_pending (e : EngineState) (s : State) : (startShared e s).pending = s.pending := rfl

@[simp] theorem sampleLine_control (l : Line) (s : State) : (sampleLine l s).control = s.control := rfl

@[simp] theorem sampleLine_timer (l : Line) (s : State) : (sampleLine l s).timer = s.timer := rfl

@[simp] theorem sampleLine_store (l : Line) (s : State) : (sampleLine l s).store = s.store := rfl

@[simp] theorem sampleLine_static (l : Line) (s : State) : (sampleLine l s).static = s.static := rfl

@[simp] theorem sampleLine_loader (l : Line) (s : State) : (sampleLine l s).loader = s.loader := rfl

@[simp] theorem sampleLine_writer (l : Line) (s : State) : (sampleLine l s).writer = s.writer := rfl

@[simp] theorem sampleLine_service (l : Line) (s : State) : (sampleLine l s).service = s.service := rfl

@[simp] theorem sampleLine_port (l : Line) (s : State) : (sampleLine l s).port = s.port := rfl

@[simp] theorem sampleLine_outside (l : Line) (s : State) : (sampleLine l s).outside = s.outside := rfl

@[simp] theorem sampleLine_now (l : Line) (s : State) : (sampleLine l s).now = s.now := rfl

@[simp] theorem sampleLine_choices (l : Line) (s : State) : (sampleLine l s).choices = s.choices := rfl

@[simp] theorem sampleLine_pending (l : Line) (s : State) : (sampleLine l s).pending = s.pending := rfl

@[simp] theorem sampleSync_control (b : Bool) (s : State) : (sampleSync b s).control = s.control := rfl

@[simp] theorem sampleSync_cells (b : Bool) (s : State) : (sampleSync b s).cells = s.cells := rfl

@[simp] theorem sampleSync_store (b : Bool) (s : State) : (sampleSync b s).store = s.store := rfl

@[simp] theorem sampleSync_static (b : Bool) (s : State) : (sampleSync b s).static = s.static := rfl

@[simp] theorem sampleSync_loader (b : Bool) (s : State) : (sampleSync b s).loader = s.loader := rfl

@[simp] theorem sampleSync_queue (b : Bool) (s : State) : (sampleSync b s).queue = s.queue := rfl

@[simp] theorem sampleSync_staging (b : Bool) (s : State) : (sampleSync b s).staging = s.staging := rfl

@[simp] theorem sampleSync_writer (b : Bool) (s : State) : (sampleSync b s).writer = s.writer := rfl

@[simp] theorem sampleSync_service (b : Bool) (s : State) : (sampleSync b s).service = s.service := rfl

@[simp] theorem sampleSync_port (b : Bool) (s : State) : (sampleSync b s).port = s.port := rfl

@[simp] theorem sampleSync_health (b : Bool) (s : State) : (sampleSync b s).health = s.health := rfl

@[simp] theorem sampleSync_now (b : Bool) (s : State) : (sampleSync b s).now = s.now := rfl

@[simp] theorem sampleSync_choices (b : Bool) (s : State) : (sampleSync b s).choices = s.choices := rfl

@[simp] theorem sampleSync_pending (b : Bool) (s : State) : (sampleSync b s).pending = s.pending := rfl

@[simp] theorem takeSetup_timer (f : SetupFields) (s : State) : (takeSetup f s).timer = s.timer := rfl

@[simp] theorem takeSetup_cells (f : SetupFields) (s : State) : (takeSetup f s).cells = s.cells := rfl

@[simp] theorem takeSetup_store (f : SetupFields) (s : State) : (takeSetup f s).store = s.store := rfl

@[simp] theorem takeSetup_static (f : SetupFields) (s : State) : (takeSetup f s).static = s.static := rfl

@[simp] theorem takeSetup_loader (f : SetupFields) (s : State) : (takeSetup f s).loader = s.loader := rfl

@[simp] theorem takeSetup_queue (f : SetupFields) (s : State) : (takeSetup f s).queue = s.queue := rfl

@[simp] theorem takeSetup_staging (f : SetupFields) (s : State) : (takeSetup f s).staging = s.staging := rfl

@[simp] theorem takeSetup_service (f : SetupFields) (s : State) : (takeSetup f s).service = s.service := rfl

@[simp] theorem takeSetup_health (f : SetupFields) (s : State) : (takeSetup f s).health = s.health := rfl

@[simp] theorem takeSetup_outside (f : SetupFields) (s : State) : (takeSetup f s).outside = s.outside := rfl

@[simp] theorem takeSetup_now (f : SetupFields) (s : State) : (takeSetup f s).now = s.now := rfl

@[simp] theorem takeSetup_choices (f : SetupFields) (s : State) : (takeSetup f s).choices = s.choices := rfl

@[simp] theorem takeSetup_pending (f : SetupFields) (s : State) : (takeSetup f s).pending = s.pending := rfl

@[simp] theorem takeLoadHostControl_control (h : HostControl) (s : State) : (takeLoadHostControl h s).control = s.control := rfl

@[simp] theorem takeLoadHostControl_timer (h : HostControl) (s : State) : (takeLoadHostControl h s).timer = s.timer := rfl

@[simp] theorem takeLoadHostControl_cells (h : HostControl) (s : State) : (takeLoadHostControl h s).cells = s.cells := rfl

@[simp] theorem takeLoadHostControl_store (h : HostControl) (s : State) : (takeLoadHostControl h s).store = s.store := rfl

@[simp] theorem takeLoadHostControl_static (h : HostControl) (s : State) : (takeLoadHostControl h s).static = s.static := rfl

@[simp] theorem takeLoadHostControl_loader (h : HostControl) (s : State) : (takeLoadHostControl h s).loader = s.loader := rfl

@[simp] theorem takeLoadHostControl_queue (h : HostControl) (s : State) : (takeLoadHostControl h s).queue = s.queue := rfl

@[simp] theorem takeLoadHostControl_staging (h : HostControl) (s : State) : (takeLoadHostControl h s).staging = s.staging := rfl

@[simp] theorem takeLoadHostControl_port (h : HostControl) (s : State) : (takeLoadHostControl h s).port = s.port := rfl

@[simp] theorem takeLoadHostControl_health (h : HostControl) (s : State) : (takeLoadHostControl h s).health = s.health := rfl

@[simp] theorem takeLoadHostControl_outside (h : HostControl) (s : State) : (takeLoadHostControl h s).outside = s.outside := rfl

@[simp] theorem takeLoadHostControl_now (h : HostControl) (s : State) : (takeLoadHostControl h s).now = s.now := rfl

@[simp] theorem takeLoadHostControl_choices (h : HostControl) (s : State) : (takeLoadHostControl h s).choices = s.choices := rfl

@[simp] theorem takeLoadHostControl_pending (h : HostControl) (s : State) : (takeLoadHostControl h s).pending = s.pending := rfl

@[simp] theorem journalDone_control (s : State) : (journalDone s).control = s.control := rfl

@[simp] theorem journalDone_timer (s : State) : (journalDone s).timer = s.timer := rfl

@[simp] theorem journalDone_cells (s : State) : (journalDone s).cells = s.cells := rfl

@[simp] theorem journalDone_store (s : State) : (journalDone s).store = s.store := rfl

@[simp] theorem journalDone_static (s : State) : (journalDone s).static = s.static := rfl

@[simp] theorem journalDone_loader (s : State) : (journalDone s).loader = s.loader := rfl

@[simp] theorem journalDone_queue (s : State) : (journalDone s).queue = s.queue := rfl

@[simp] theorem journalDone_service (s : State) : (journalDone s).service = s.service := rfl

@[simp] theorem journalDone_port (s : State) : (journalDone s).port = s.port := rfl

@[simp] theorem journalDone_outside (s : State) : (journalDone s).outside = s.outside := rfl

@[simp] theorem journalDone_now (s : State) : (journalDone s).now = s.now := rfl

@[simp] theorem journalDone_choices (s : State) : (journalDone s).choices = s.choices := rfl

@[simp] theorem journalDone_pending (s : State) : (journalDone s).pending = s.pending := rfl

@[simp] theorem countFailure_timer (s : State) : (countFailure s).timer = s.timer := rfl

@[simp] theorem countFailure_cells (s : State) : (countFailure s).cells = s.cells := rfl

@[simp] theorem countFailure_store (s : State) : (countFailure s).store = s.store := rfl

@[simp] theorem countFailure_static (s : State) : (countFailure s).static = s.static := rfl

@[simp] theorem countFailure_loader (s : State) : (countFailure s).loader = s.loader := rfl

@[simp] theorem countFailure_queue (s : State) : (countFailure s).queue = s.queue := rfl

@[simp] theorem countFailure_staging (s : State) : (countFailure s).staging = s.staging := rfl

@[simp] theorem countFailure_writer (s : State) : (countFailure s).writer = s.writer := rfl

@[simp] theorem countFailure_service (s : State) : (countFailure s).service = s.service := rfl

@[simp] theorem countFailure_outside (s : State) : (countFailure s).outside = s.outside := rfl

@[simp] theorem countFailure_now (s : State) : (countFailure s).now = s.now := rfl

@[simp] theorem countFailure_choices (s : State) : (countFailure s).choices = s.choices := rfl

@[simp] theorem countFailure_pending (s : State) : (countFailure s).pending = s.pending := rfl

@[simp] theorem journalFailed_control (s : State) : (journalFailed s).control = s.control := rfl

@[simp] theorem journalFailed_timer (s : State) : (journalFailed s).timer = s.timer := rfl

@[simp] theorem journalFailed_cells (s : State) : (journalFailed s).cells = s.cells := rfl

@[simp] theorem journalFailed_store (s : State) : (journalFailed s).store = s.store := rfl

@[simp] theorem journalFailed_static (s : State) : (journalFailed s).static = s.static := rfl

@[simp] theorem journalFailed_loader (s : State) : (journalFailed s).loader = s.loader := rfl

@[simp] theorem journalFailed_queue (s : State) : (journalFailed s).queue = s.queue := rfl

@[simp] theorem journalFailed_writer (s : State) : (journalFailed s).writer = s.writer := rfl

@[simp] theorem journalFailed_service (s : State) : (journalFailed s).service = s.service := rfl

@[simp] theorem journalFailed_port (s : State) : (journalFailed s).port = s.port := rfl

@[simp] theorem journalFailed_outside (s : State) : (journalFailed s).outside = s.outside := rfl

@[simp] theorem journalFailed_now (s : State) : (journalFailed s).now = s.now := rfl

@[simp] theorem journalFailed_choices (s : State) : (journalFailed s).choices = s.choices := rfl

@[simp] theorem journalFailed_pending (s : State) : (journalFailed s).pending = s.pending := rfl

@[simp] theorem advanceTick_control (s : State) : (advanceTick s).control = s.control := rfl

@[simp] theorem advanceTick_static (s : State) : (advanceTick s).static = s.static := rfl

@[simp] theorem advanceTick_loader (s : State) : (advanceTick s).loader = s.loader := rfl

@[simp] theorem advanceTick_queue (s : State) : (advanceTick s).queue = s.queue := rfl

@[simp] theorem advanceTick_writer (s : State) : (advanceTick s).writer = s.writer := rfl

@[simp] theorem advanceTick_service (s : State) : (advanceTick s).service = s.service := rfl

@[simp] theorem advanceTick_port (s : State) : (advanceTick s).port = s.port := rfl

@[simp] theorem advanceTick_outside (s : State) : (advanceTick s).outside = s.outside := rfl

@[simp] theorem advanceTick_choices (s : State) : (advanceTick s).choices = s.choices := rfl

@[simp] theorem advanceTick_pending (s : State) : (advanceTick s).pending = s.pending := rfl

@[simp] theorem judgeOffers_control (s : State) : (judgeOffers s).control = s.control := rfl

@[simp] theorem judgeOffers_timer (s : State) : (judgeOffers s).timer = s.timer := rfl

@[simp] theorem judgeOffers_cells (s : State) : (judgeOffers s).cells = s.cells := rfl

@[simp] theorem judgeOffers_store (s : State) : (judgeOffers s).store = s.store := rfl

@[simp] theorem judgeOffers_static (s : State) : (judgeOffers s).static = s.static := rfl

@[simp] theorem judgeOffers_loader (s : State) : (judgeOffers s).loader = s.loader := rfl

@[simp] theorem judgeOffers_queue (s : State) : (judgeOffers s).queue = s.queue := rfl

@[simp] theorem judgeOffers_writer (s : State) : (judgeOffers s).writer = s.writer := rfl

@[simp] theorem judgeOffers_service (s : State) : (judgeOffers s).service = s.service := rfl

@[simp] theorem judgeOffers_port (s : State) : (judgeOffers s).port = s.port := rfl

@[simp] theorem judgeOffers_outside (s : State) : (judgeOffers s).outside = s.outside := rfl

@[simp] theorem judgeOffers_now (s : State) : (judgeOffers s).now = s.now := rfl

@[simp] theorem judgeOffers_choices (s : State) : (judgeOffers s).choices = s.choices := rfl

@[simp] theorem judgeOffers_pending (s : State) : (judgeOffers s).pending = s.pending := rfl

@[simp] theorem haltAgain_timer (s : State) : (haltAgain s).timer = s.timer := rfl

@[simp] theorem haltAgain_store (s : State) : (haltAgain s).store = s.store := rfl

@[simp] theorem haltAgain_static (s : State) : (haltAgain s).static = s.static := rfl

@[simp] theorem haltAgain_loader (s : State) : (haltAgain s).loader = s.loader := rfl

@[simp] theorem haltAgain_staging (s : State) : (haltAgain s).staging = s.staging := rfl

@[simp] theorem haltAgain_writer (s : State) : (haltAgain s).writer = s.writer := rfl

@[simp] theorem haltAgain_port (s : State) : (haltAgain s).port = s.port := rfl

@[simp] theorem haltAgain_health (s : State) : (haltAgain s).health = s.health := rfl

@[simp] theorem haltAgain_outside (s : State) : (haltAgain s).outside = s.outside := rfl

@[simp] theorem haltAgain_now (s : State) : (haltAgain s).now = s.now := rfl

@[simp] theorem haltAgain_choices (s : State) : (haltAgain s).choices = s.choices := rfl

@[simp] theorem haltAgain_pending (s : State) : (haltAgain s).pending = s.pending := rfl

@[simp] theorem judgeOffers_staging (s : State) : (judgeOffers s).staging = s.staging.judge := rfl

end Sys2Proof.Machine
end

