-- ==== Sys2Proof/Laws/Frames.lean ====
section
/-! SUPPORT. For each operation that chooses between updates, one lemma for each field that no choice touches. -/

namespace Sys2Proof.Machine

@[simp] theorem grantFree_control (s : State) : (grantFree s).control = s.control := by
  unfold grantFree; split <;> [rfl; split <;> rfl]

@[simp] theorem grantFree_timer (s : State) : (grantFree s).timer = s.timer := by
  unfold grantFree; split <;> [rfl; split <;> rfl]

@[simp] theorem grantFree_cells (s : State) : (grantFree s).cells = s.cells := by
  unfold grantFree; split <;> [rfl; split <;> rfl]

@[simp] theorem grantFree_store (s : State) : (grantFree s).store = s.store := by
  unfold grantFree; split <;> [rfl; split <;> rfl]

@[simp] theorem grantFree_static (s : State) : (grantFree s).static = s.static := by
  unfold grantFree; split <;> [rfl; split <;> rfl]

@[simp] theorem grantFree_loader (s : State) : (grantFree s).loader = s.loader := by
  unfold grantFree; split <;> [rfl; split <;> rfl]

@[simp] theorem grantFree_queue (s : State) : (grantFree s).queue = s.queue := by
  unfold grantFree; split <;> [rfl; split <;> rfl]

@[simp] theorem grantFree_staging (s : State) : (grantFree s).staging = s.staging := by
  unfold grantFree; split <;> [rfl; split <;> rfl]

@[simp] theorem grantFree_writer (s : State) : (grantFree s).writer = s.writer := by
  unfold grantFree; split <;> [rfl; split <;> rfl]

@[simp] theorem grantFree_health (s : State) : (grantFree s).health = s.health := by
  unfold grantFree; split <;> [rfl; split <;> rfl]

@[simp] theorem grantFree_outside (s : State) : (grantFree s).outside = s.outside := by
  unfold grantFree; split <;> [rfl; split <;> rfl]

@[simp] theorem grantFree_now (s : State) : (grantFree s).now = s.now := by
  unfold grantFree; split <;> [rfl; split <;> rfl]

@[simp] theorem grantFree_choices (s : State) : (grantFree s).choices = s.choices := by
  unfold grantFree; split <;> [rfl; split <;> rfl]

@[simp] theorem grantFree_pending (s : State) : (grantFree s).pending = s.pending := by
  unfold grantFree; split <;> [rfl; split <;> rfl]

@[simp] theorem settlePort_control (s : State) : (settlePort s).control = s.control := by
  simp [settlePort]

@[simp] theorem settlePort_timer (s : State) : (settlePort s).timer = s.timer := by
  simp [settlePort]

@[simp] theorem settlePort_cells (s : State) : (settlePort s).cells = s.cells := by
  simp [settlePort]

@[simp] theorem settlePort_store (s : State) : (settlePort s).store = s.store := by
  simp [settlePort]

@[simp] theorem settlePort_static (s : State) : (settlePort s).static = s.static := by
  simp [settlePort]

@[simp] theorem settlePort_loader (s : State) : (settlePort s).loader = s.loader := by
  simp [settlePort]

@[simp] theorem settlePort_queue (s : State) : (settlePort s).queue = s.queue := by
  simp [settlePort]

@[simp] theorem settlePort_staging (s : State) : (settlePort s).staging = s.staging := by
  simp [settlePort]

@[simp] theorem settlePort_writer (s : State) : (settlePort s).writer = s.writer := by
  simp [settlePort]

@[simp] theorem settlePort_health (s : State) : (settlePort s).health = s.health := by
  simp [settlePort]

@[simp] theorem settlePort_outside (s : State) : (settlePort s).outside = s.outside := by
  simp [settlePort]

@[simp] theorem settlePort_now (s : State) : (settlePort s).now = s.now := by
  simp [settlePort]

@[simp] theorem settlePort_choices (s : State) : (settlePort s).choices = s.choices := by
  simp [settlePort]

@[simp] theorem settlePort_pending (s : State) : (settlePort s).pending = s.pending := by
  simp [settlePort]

@[simp] theorem grantAtEnd_control (b : Port) (s : State) : (grantAtEnd b s).control = s.control := by
  unfold grantAtEnd; dsimp only; split <;> rfl

@[simp] theorem grantAtEnd_timer (b : Port) (s : State) : (grantAtEnd b s).timer = s.timer := by
  unfold grantAtEnd; dsimp only; split <;> rfl

@[simp] theorem grantAtEnd_cells (b : Port) (s : State) : (grantAtEnd b s).cells = s.cells := by
  unfold grantAtEnd; dsimp only; split <;> rfl

@[simp] theorem grantAtEnd_store (b : Port) (s : State) : (grantAtEnd b s).store = s.store := by
  unfold grantAtEnd; dsimp only; split <;> rfl

@[simp] theorem grantAtEnd_static (b : Port) (s : State) : (grantAtEnd b s).static = s.static := by
  unfold grantAtEnd; dsimp only; split <;> rfl

@[simp] theorem grantAtEnd_loader (b : Port) (s : State) : (grantAtEnd b s).loader = s.loader := by
  unfold grantAtEnd; dsimp only; split <;> rfl

@[simp] theorem grantAtEnd_queue (b : Port) (s : State) : (grantAtEnd b s).queue = s.queue := by
  unfold grantAtEnd; dsimp only; split <;> rfl

@[simp] theorem grantAtEnd_staging (b : Port) (s : State) : (grantAtEnd b s).staging = s.staging := by
  unfold grantAtEnd; dsimp only; split <;> rfl

@[simp] theorem grantAtEnd_writer (b : Port) (s : State) : (grantAtEnd b s).writer = s.writer := by
  unfold grantAtEnd; dsimp only; split <;> rfl

@[simp] theorem grantAtEnd_health (b : Port) (s : State) : (grantAtEnd b s).health = s.health := by
  unfold grantAtEnd; dsimp only; split <;> rfl

@[simp] theorem grantAtEnd_outside (b : Port) (s : State) : (grantAtEnd b s).outside = s.outside := by
  unfold grantAtEnd; dsimp only; split <;> rfl

@[simp] theorem grantAtEnd_now (b : Port) (s : State) : (grantAtEnd b s).now = s.now := by
  unfold grantAtEnd; dsimp only; split <;> rfl

@[simp] theorem grantAtEnd_pending (b : Port) (s : State) : (grantAtEnd b s).pending = s.pending := by
  unfold grantAtEnd; dsimp only; split <;> rfl

@[simp] theorem nextPlanRead_control (s : State) : (nextPlanRead s).control = s.control := by
  unfold nextPlanRead; split <;> rfl

@[simp] theorem nextPlanRead_timer (s : State) : (nextPlanRead s).timer = s.timer := by
  unfold nextPlanRead; split <;> rfl

@[simp] theorem nextPlanRead_cells (s : State) : (nextPlanRead s).cells = s.cells := by
  unfold nextPlanRead; split <;> rfl

@[simp] theorem nextPlanRead_store (s : State) : (nextPlanRead s).store = s.store := by
  unfold nextPlanRead; split <;> rfl

@[simp] theorem nextPlanRead_static (s : State) : (nextPlanRead s).static = s.static := by
  unfold nextPlanRead; split <;> rfl

@[simp] theorem nextPlanRead_queue (s : State) : (nextPlanRead s).queue = s.queue := by
  unfold nextPlanRead; split <;> rfl

@[simp] theorem nextPlanRead_staging (s : State) : (nextPlanRead s).staging = s.staging := by
  unfold nextPlanRead; split <;> rfl

@[simp] theorem nextPlanRead_writer (s : State) : (nextPlanRead s).writer = s.writer := by
  unfold nextPlanRead; split <;> rfl

@[simp] theorem nextPlanRead_service (s : State) : (nextPlanRead s).service = s.service := by
  unfold nextPlanRead; split <;> rfl

@[simp] theorem nextPlanRead_health (s : State) : (nextPlanRead s).health = s.health := by
  unfold nextPlanRead; split <;> rfl

@[simp] theorem nextPlanRead_outside (s : State) : (nextPlanRead s).outside = s.outside := by
  unfold nextPlanRead; split <;> rfl

@[simp] theorem nextPlanRead_now (s : State) : (nextPlanRead s).now = s.now := by
  unfold nextPlanRead; split <;> rfl

@[simp] theorem nextPlanRead_choices (s : State) : (nextPlanRead s).choices = s.choices := by
  unfold nextPlanRead; split <;> rfl

@[simp] theorem nextPlanRead_pending (s : State) : (nextPlanRead s).pending = s.pending := by
  unfold nextPlanRead; split <;> rfl

@[simp] theorem planRejected_timer (d : PlanDetail) (s : State) : (planRejected d s).timer = s.timer := by
  unfold planRejected; dsimp only; split <;> rfl

@[simp] theorem planRejected_cells (d : PlanDetail) (s : State) : (planRejected d s).cells = s.cells := by
  unfold planRejected; dsimp only; split <;> rfl

@[simp] theorem planRejected_static (d : PlanDetail) (s : State) : (planRejected d s).static = s.static := by
  unfold planRejected; dsimp only; split <;> rfl

@[simp] theorem planRejected_queue (d : PlanDetail) (s : State) : (planRejected d s).queue = s.queue := by
  unfold planRejected; dsimp only; split <;> rfl

@[simp] theorem planRejected_staging (d : PlanDetail) (s : State) : (planRejected d s).staging = s.staging := by
  unfold planRejected; dsimp only; split <;> rfl

@[simp] theorem planRejected_writer (d : PlanDetail) (s : State) : (planRejected d s).writer = s.writer := by
  unfold planRejected; dsimp only; split <;> rfl

@[simp] theorem planRejected_service (d : PlanDetail) (s : State) : (planRejected d s).service = s.service := by
  unfold planRejected; dsimp only; split <;> rfl

@[simp] theorem planRejected_port (d : PlanDetail) (s : State) : (planRejected d s).port = s.port := by
  unfold planRejected; dsimp only; split <;> rfl

@[simp] theorem planRejected_health (d : PlanDetail) (s : State) : (planRejected d s).health = s.health := by
  unfold planRejected; dsimp only; split <;> rfl

@[simp] theorem planRejected_outside (d : PlanDetail) (s : State) : (planRejected d s).outside = s.outside := by
  unfold planRejected; dsimp only; split <;> rfl

@[simp] theorem planRejected_now (d : PlanDetail) (s : State) : (planRejected d s).now = s.now := by
  unfold planRejected; dsimp only; split <;> rfl

@[simp] theorem planRejected_choices (d : PlanDetail) (s : State) : (planRejected d s).choices = s.choices := by
  unfold planRejected; dsimp only; split <;> rfl

@[simp] theorem planRejected_pending (d : PlanDetail) (s : State) : (planRejected d s).pending = s.pending := by
  unfold planRejected; dsimp only; split <;> rfl

@[simp] theorem planBusFailed_timer (d : PlanDetail) (s : State) : (planBusFailed d s).timer = s.timer := by
  unfold planBusFailed; dsimp only; split <;> rfl

@[simp] theorem planBusFailed_cells (d : PlanDetail) (s : State) : (planBusFailed d s).cells = s.cells := by
  unfold planBusFailed; dsimp only; split <;> rfl

@[simp] theorem planBusFailed_static (d : PlanDetail) (s : State) : (planBusFailed d s).static = s.static := by
  unfold planBusFailed; dsimp only; split <;> rfl

@[simp] theorem planBusFailed_queue (d : PlanDetail) (s : State) : (planBusFailed d s).queue = s.queue := by
  unfold planBusFailed; dsimp only; split <;> rfl

@[simp] theorem planBusFailed_staging (d : PlanDetail) (s : State) : (planBusFailed d s).staging = s.staging := by
  unfold planBusFailed; dsimp only; split <;> rfl

@[simp] theorem planBusFailed_writer (d : PlanDetail) (s : State) : (planBusFailed d s).writer = s.writer := by
  unfold planBusFailed; dsimp only; split <;> rfl

@[simp] theorem planBusFailed_service (d : PlanDetail) (s : State) : (planBusFailed d s).service = s.service := by
  unfold planBusFailed; dsimp only; split <;> rfl

@[simp] theorem planBusFailed_port (d : PlanDetail) (s : State) : (planBusFailed d s).port = s.port := by
  unfold planBusFailed; dsimp only; split <;> rfl

@[simp] theorem planBusFailed_health (d : PlanDetail) (s : State) : (planBusFailed d s).health = s.health := by
  unfold planBusFailed; dsimp only; split <;> rfl

@[simp] theorem planBusFailed_outside (d : PlanDetail) (s : State) : (planBusFailed d s).outside = s.outside := by
  unfold planBusFailed; dsimp only; split <;> rfl

@[simp] theorem planBusFailed_now (d : PlanDetail) (s : State) : (planBusFailed d s).now = s.now := by
  unfold planBusFailed; dsimp only; split <;> rfl

@[simp] theorem planBusFailed_choices (d : PlanDetail) (s : State) : (planBusFailed d s).choices = s.choices := by
  unfold planBusFailed; dsimp only; split <;> rfl

@[simp] theorem planBusFailed_pending (d : PlanDetail) (s : State) : (planBusFailed d s).pending = s.pending := by
  unfold planBusFailed; dsimp only; split <;> rfl

@[simp] theorem judgePlan_timer (s : State) : (judgePlan s).timer = s.timer := by
  unfold judgePlan; split <;> [skip; split] <;> simp

@[simp] theorem judgePlan_cells (s : State) : (judgePlan s).cells = s.cells := by
  unfold judgePlan; split <;> [skip; split] <;> simp

@[simp] theorem judgePlan_static (s : State) : (judgePlan s).static = s.static := by
  unfold judgePlan; split <;> [skip; split] <;> simp

@[simp] theorem judgePlan_queue (s : State) : (judgePlan s).queue = s.queue := by
  unfold judgePlan; split <;> [skip; split] <;> simp

@[simp] theorem judgePlan_staging (s : State) : (judgePlan s).staging = s.staging := by
  unfold judgePlan; split <;> [skip; split] <;> simp

@[simp] theorem judgePlan_writer (s : State) : (judgePlan s).writer = s.writer := by
  unfold judgePlan; split <;> [skip; split] <;> simp

@[simp] theorem judgePlan_health (s : State) : (judgePlan s).health = s.health := by
  unfold judgePlan; split <;> [skip; split] <;> simp

@[simp] theorem judgePlan_outside (s : State) : (judgePlan s).outside = s.outside := by
  unfold judgePlan; split <;> [skip; split] <;> simp

@[simp] theorem judgePlan_now (s : State) : (judgePlan s).now = s.now := by
  unfold judgePlan; split <;> [skip; split] <;> simp

@[simp] theorem judgePlan_choices (s : State) : (judgePlan s).choices = s.choices := by
  unfold judgePlan; split <;> [skip; split] <;> simp

@[simp] theorem judgePlan_pending (s : State) : (judgePlan s).pending = s.pending := by
  unfold judgePlan; split <;> [skip; split] <;> simp

@[simp] theorem judgeHeader_timer (s : State) : (judgeHeader s).timer = s.timer := by
  unfold judgeHeader; dsimp only; split <;> simp

@[simp] theorem judgeHeader_cells (s : State) : (judgeHeader s).cells = s.cells := by
  unfold judgeHeader; dsimp only; split <;> simp

@[simp] theorem judgeHeader_static (s : State) : (judgeHeader s).static = s.static := by
  unfold judgeHeader; dsimp only; split <;> simp

@[simp] theorem judgeHeader_queue (s : State) : (judgeHeader s).queue = s.queue := by
  unfold judgeHeader; dsimp only; split <;> simp

@[simp] theorem judgeHeader_staging (s : State) : (judgeHeader s).staging = s.staging := by
  unfold judgeHeader; dsimp only; split <;> simp

@[simp] theorem judgeHeader_writer (s : State) : (judgeHeader s).writer = s.writer := by
  unfold judgeHeader; dsimp only; split <;> simp

@[simp] theorem judgeHeader_service (s : State) : (judgeHeader s).service = s.service := by
  unfold judgeHeader; dsimp only; split <;> simp

@[simp] theorem judgeHeader_health (s : State) : (judgeHeader s).health = s.health := by
  unfold judgeHeader; dsimp only; split <;> simp

@[simp] theorem judgeHeader_outside (s : State) : (judgeHeader s).outside = s.outside := by
  unfold judgeHeader; dsimp only; split <;> simp

@[simp] theorem judgeHeader_now (s : State) : (judgeHeader s).now = s.now := by
  unfold judgeHeader; dsimp only; split <;> simp

@[simp] theorem judgeHeader_choices (s : State) : (judgeHeader s).choices = s.choices := by
  unfold judgeHeader; dsimp only; split <;> simp

@[simp] theorem judgeHeader_pending (s : State) : (judgeHeader s).pending = s.pending := by
  unfold judgeHeader; dsimp only; split <;> simp

@[simp] theorem afterPlanBytes_timer (s : State) : (afterPlanBytes s).timer = s.timer := by
  unfold afterPlanBytes; split <;> [skip; split] <;> simp

@[simp] theorem afterPlanBytes_cells (s : State) : (afterPlanBytes s).cells = s.cells := by
  unfold afterPlanBytes; split <;> [skip; split] <;> simp

@[simp] theorem afterPlanBytes_static (s : State) : (afterPlanBytes s).static = s.static := by
  unfold afterPlanBytes; split <;> [skip; split] <;> simp

@[simp] theorem afterPlanBytes_queue (s : State) : (afterPlanBytes s).queue = s.queue := by
  unfold afterPlanBytes; split <;> [skip; split] <;> simp

@[simp] theorem afterPlanBytes_staging (s : State) : (afterPlanBytes s).staging = s.staging := by
  unfold afterPlanBytes; split <;> [skip; split] <;> simp

@[simp] theorem afterPlanBytes_writer (s : State) : (afterPlanBytes s).writer = s.writer := by
  unfold afterPlanBytes; split <;> [skip; split] <;> simp

@[simp] theorem afterPlanBytes_health (s : State) : (afterPlanBytes s).health = s.health := by
  unfold afterPlanBytes; split <;> [skip; split] <;> simp

@[simp] theorem afterPlanBytes_outside (s : State) : (afterPlanBytes s).outside = s.outside := by
  unfold afterPlanBytes; split <;> [skip; split] <;> simp

@[simp] theorem afterPlanBytes_now (s : State) : (afterPlanBytes s).now = s.now := by
  unfold afterPlanBytes; split <;> [skip; split] <;> simp

@[simp] theorem afterPlanBytes_choices (s : State) : (afterPlanBytes s).choices = s.choices := by
  unfold afterPlanBytes; split <;> [skip; split] <;> simp

@[simp] theorem afterPlanBytes_pending (s : State) : (afterPlanBytes s).pending = s.pending := by
  unfold afterPlanBytes; split <;> [skip; split] <;> simp

@[simp] theorem staleReadEnds_control (s : State) : (staleReadEnds s).control = s.control := by
  unfold staleReadEnds; dsimp only; split <;> simp

@[simp] theorem staleReadEnds_timer (s : State) : (staleReadEnds s).timer = s.timer := by
  unfold staleReadEnds; dsimp only; split <;> simp

@[simp] theorem staleReadEnds_cells (s : State) : (staleReadEnds s).cells = s.cells := by
  unfold staleReadEnds; dsimp only; split <;> simp

@[simp] theorem staleReadEnds_store (s : State) : (staleReadEnds s).store = s.store := by
  unfold staleReadEnds; dsimp only; split <;> simp

@[simp] theorem staleReadEnds_static (s : State) : (staleReadEnds s).static = s.static := by
  unfold staleReadEnds; dsimp only; split <;> simp

@[simp] theorem staleReadEnds_queue (s : State) : (staleReadEnds s).queue = s.queue := by
  unfold staleReadEnds; dsimp only; split <;> simp

@[simp] theorem staleReadEnds_staging (s : State) : (staleReadEnds s).staging = s.staging := by
  unfold staleReadEnds; dsimp only; split <;> simp

@[simp] theorem staleReadEnds_writer (s : State) : (staleReadEnds s).writer = s.writer := by
  unfold staleReadEnds; dsimp only; split <;> simp

@[simp] theorem staleReadEnds_service (s : State) : (staleReadEnds s).service = s.service := by
  unfold staleReadEnds; dsimp only; split <;> simp

@[simp] theorem staleReadEnds_health (s : State) : (staleReadEnds s).health = s.health := by
  unfold staleReadEnds; dsimp only; split <;> simp

@[simp] theorem staleReadEnds_outside (s : State) : (staleReadEnds s).outside = s.outside := by
  unfold staleReadEnds; dsimp only; split <;> simp

@[simp] theorem staleReadEnds_now (s : State) : (staleReadEnds s).now = s.now := by
  unfold staleReadEnds; dsimp only; split <;> simp

@[simp] theorem staleReadEnds_choices (s : State) : (staleReadEnds s).choices = s.choices := by
  unfold staleReadEnds; dsimp only; split <;> simp

@[simp] theorem staleReadEnds_pending (s : State) : (staleReadEnds s).pending = s.pending := by
  unfold staleReadEnds; dsimp only; split <;> simp

@[simp] theorem planReadReturns_timer (bs : List Byte) (s : State) : (planReadReturns bs s).timer = s.timer := by
  unfold planReadReturns; split <;> simp

@[simp] theorem planReadReturns_cells (bs : List Byte) (s : State) : (planReadReturns bs s).cells = s.cells := by
  unfold planReadReturns; split <;> simp

@[simp] theorem planReadReturns_static (bs : List Byte) (s : State) : (planReadReturns bs s).static = s.static := by
  unfold planReadReturns; split <;> simp

@[simp] theorem planReadReturns_queue (bs : List Byte) (s : State) : (planReadReturns bs s).queue = s.queue := by
  unfold planReadReturns; split <;> simp

@[simp] theorem planReadReturns_staging (bs : List Byte) (s : State) : (planReadReturns bs s).staging = s.staging := by
  unfold planReadReturns; split <;> simp

@[simp] theorem planReadReturns_writer (bs : List Byte) (s : State) : (planReadReturns bs s).writer = s.writer := by
  unfold planReadReturns; split <;> simp

@[simp] theorem planReadReturns_health (bs : List Byte) (s : State) : (planReadReturns bs s).health = s.health := by
  unfold planReadReturns; split <;> simp

@[simp] theorem planReadReturns_outside (bs : List Byte) (s : State) : (planReadReturns bs s).outside = s.outside := by
  unfold planReadReturns; split <;> simp

@[simp] theorem planReadReturns_now (bs : List Byte) (s : State) : (planReadReturns bs s).now = s.now := by
  unfold planReadReturns; split <;> simp

@[simp] theorem planReadReturns_choices (bs : List Byte) (s : State) : (planReadReturns bs s).choices = s.choices := by
  unfold planReadReturns; split <;> simp

@[simp] theorem planReadReturns_pending (bs : List Byte) (s : State) : (planReadReturns bs s).pending = s.pending := by
  unfold planReadReturns; split <;> simp

@[simp] theorem planReadFails_timer (d : PlanDetail) (s : State) : (planReadFails d s).timer = s.timer := by
  unfold planReadFails; split <;> simp

@[simp] theorem planReadFails_cells (d : PlanDetail) (s : State) : (planReadFails d s).cells = s.cells := by
  unfold planReadFails; split <;> simp

@[simp] theorem planReadFails_static (d : PlanDetail) (s : State) : (planReadFails d s).static = s.static := by
  unfold planReadFails; split <;> simp

@[simp] theorem planReadFails_queue (d : PlanDetail) (s : State) : (planReadFails d s).queue = s.queue := by
  unfold planReadFails; split <;> simp

@[simp] theorem planReadFails_staging (d : PlanDetail) (s : State) : (planReadFails d s).staging = s.staging := by
  unfold planReadFails; split <;> simp

@[simp] theorem planReadFails_writer (d : PlanDetail) (s : State) : (planReadFails d s).writer = s.writer := by
  unfold planReadFails; split <;> simp

@[simp] theorem planReadFails_service (d : PlanDetail) (s : State) : (planReadFails d s).service = s.service := by
  unfold planReadFails; split <;> simp

@[simp] theorem planReadFails_health (d : PlanDetail) (s : State) : (planReadFails d s).health = s.health := by
  unfold planReadFails; split <;> simp

@[simp] theorem planReadFails_outside (d : PlanDetail) (s : State) : (planReadFails d s).outside = s.outside := by
  unfold planReadFails; split <;> simp

@[simp] theorem planReadFails_now (d : PlanDetail) (s : State) : (planReadFails d s).now = s.now := by
  unfold planReadFails; split <;> simp

@[simp] theorem planReadFails_choices (d : PlanDetail) (s : State) : (planReadFails d s).choices = s.choices := by
  unfold planReadFails; split <;> simp

@[simp] theorem planReadFails_pending (d : PlanDetail) (s : State) : (planReadFails d s).pending = s.pending := by
  unfold planReadFails; split <;> simp

@[simp] theorem firstRead_timer (s : State) : (firstRead s).timer = s.timer := by
  unfold firstRead; split <;> simp

@[simp] theorem firstRead_cells (s : State) : (firstRead s).cells = s.cells := by
  unfold firstRead; split <;> simp

@[simp] theorem firstRead_static (s : State) : (firstRead s).static = s.static := by
  unfold firstRead; split <;> simp

@[simp] theorem firstRead_queue (s : State) : (firstRead s).queue = s.queue := by
  unfold firstRead; split <;> simp

@[simp] theorem firstRead_staging (s : State) : (firstRead s).staging = s.staging := by
  unfold firstRead; split <;> simp

@[simp] theorem firstRead_writer (s : State) : (firstRead s).writer = s.writer := by
  unfold firstRead; split <;> simp

@[simp] theorem firstRead_service (s : State) : (firstRead s).service = s.service := by
  unfold firstRead; split <;> simp

@[simp] theorem firstRead_health (s : State) : (firstRead s).health = s.health := by
  unfold firstRead; split <;> simp

@[simp] theorem firstRead_outside (s : State) : (firstRead s).outside = s.outside := by
  unfold firstRead; split <;> simp

@[simp] theorem firstRead_now (s : State) : (firstRead s).now = s.now := by
  unfold firstRead; split <;> simp

@[simp] theorem firstRead_choices (s : State) : (firstRead s).choices = s.choices := by
  unfold firstRead; split <;> simp

@[simp] theorem firstRead_pending (s : State) : (firstRead s).pending = s.pending := by
  unfold firstRead; split <;> simp

@[simp] theorem handOverPlan_timer (a : Addr) (g : Word) (s : State) : (handOverPlan a g s).timer = s.timer := by
  unfold handOverPlan startLoad overtake; repeat' split
  all_goals simp

@[simp] theorem handOverPlan_cells (a : Addr) (g : Word) (s : State) : (handOverPlan a g s).cells = s.cells := by
  unfold handOverPlan startLoad overtake; repeat' split
  all_goals simp

@[simp] theorem handOverPlan_static (a : Addr) (g : Word) (s : State) : (handOverPlan a g s).static = s.static := by
  unfold handOverPlan startLoad overtake; repeat' split
  all_goals simp

@[simp] theorem handOverPlan_queue (a : Addr) (g : Word) (s : State) : (handOverPlan a g s).queue = s.queue := by
  unfold handOverPlan startLoad overtake; repeat' split
  all_goals simp

@[simp] theorem handOverPlan_staging (a : Addr) (g : Word) (s : State) : (handOverPlan a g s).staging = s.staging := by
  unfold handOverPlan startLoad overtake; repeat' split
  all_goals simp

@[simp] theorem handOverPlan_writer (a : Addr) (g : Word) (s : State) : (handOverPlan a g s).writer = s.writer := by
  unfold handOverPlan startLoad overtake; repeat' split
  all_goals simp

@[simp] theorem handOverPlan_service (a : Addr) (g : Word) (s : State) : (handOverPlan a g s).service = s.service := by
  unfold handOverPlan startLoad overtake; repeat' split
  all_goals simp

@[simp] theorem handOverPlan_health (a : Addr) (g : Word) (s : State) : (handOverPlan a g s).health = s.health := by
  unfold handOverPlan startLoad overtake; repeat' split
  all_goals simp

@[simp] theorem handOverPlan_outside (a : Addr) (g : Word) (s : State) : (handOverPlan a g s).outside = s.outside := by
  unfold handOverPlan startLoad overtake; repeat' split
  all_goals simp

@[simp] theorem handOverPlan_now (a : Addr) (g : Word) (s : State) : (handOverPlan a g s).now = s.now := by
  unfold handOverPlan startLoad overtake; repeat' split
  all_goals simp

@[simp] theorem handOverPlan_choices (a : Addr) (g : Word) (s : State) : (handOverPlan a g s).choices = s.choices := by
  unfold handOverPlan startLoad overtake; repeat' split
  all_goals simp

@[simp] theorem handOverPlan_pending (a : Addr) (g : Word) (s : State) : (handOverPlan a g s).pending = s.pending := by
  unfold handOverPlan startLoad overtake; repeat' split
  all_goals simp

@[simp] theorem startInitialLoad_timer (a : Addr) (g : Word) (s : State) : (startInitialLoad a g s).timer = s.timer := by
  simp [startInitialLoad]

@[simp] theorem startInitialLoad_cells (a : Addr) (g : Word) (s : State) : (startInitialLoad a g s).cells = s.cells := by
  simp [startInitialLoad]

@[simp] theorem startInitialLoad_static (a : Addr) (g : Word) (s : State) : (startInitialLoad a g s).static = s.static := by
  simp [startInitialLoad]

@[simp] theorem startInitialLoad_queue (a : Addr) (g : Word) (s : State) : (startInitialLoad a g s).queue = s.queue := by
  simp [startInitialLoad]

@[simp] theorem startInitialLoad_staging (a : Addr) (g : Word) (s : State) : (startInitialLoad a g s).staging = s.staging := by
  simp [startInitialLoad]

@[simp] theorem startInitialLoad_writer (a : Addr) (g : Word) (s : State) : (startInitialLoad a g s).writer = s.writer := by
  simp [startInitialLoad]

@[simp] theorem startInitialLoad_service (a : Addr) (g : Word) (s : State) : (startInitialLoad a g s).service = s.service := by
  simp [startInitialLoad]

@[simp] theorem startInitialLoad_health (a : Addr) (g : Word) (s : State) : (startInitialLoad a g s).health = s.health := by
  simp [startInitialLoad]

@[simp] theorem startInitialLoad_outside (a : Addr) (g : Word) (s : State) : (startInitialLoad a g s).outside = s.outside := by
  simp [startInitialLoad]

@[simp] theorem startInitialLoad_now (a : Addr) (g : Word) (s : State) : (startInitialLoad a g s).now = s.now := by
  simp [startInitialLoad]

@[simp] theorem startInitialLoad_choices (a : Addr) (g : Word) (s : State) : (startInitialLoad a g s).choices = s.choices := by
  simp [startInitialLoad]

@[simp] theorem startInitialLoad_pending (a : Addr) (g : Word) (s : State) : (startInitialLoad a g s).pending = s.pending := by
  simp [startInitialLoad]

@[simp] theorem serviceFree_control (s : State) : (serviceFree s).control = s.control := by
  unfold serviceFree; dsimp only; repeat' split
  all_goals simp

@[simp] theorem serviceFree_timer (s : State) : (serviceFree s).timer = s.timer := by
  unfold serviceFree; dsimp only; repeat' split
  all_goals simp

@[simp] theorem serviceFree_cells (s : State) : (serviceFree s).cells = s.cells := by
  unfold serviceFree; dsimp only; repeat' split
  all_goals simp

@[simp] theorem serviceFree_store (s : State) : (serviceFree s).store = s.store := by
  unfold serviceFree; dsimp only; repeat' split
  all_goals simp

@[simp] theorem serviceFree_static (s : State) : (serviceFree s).static = s.static := by
  unfold serviceFree; dsimp only; repeat' split
  all_goals simp

@[simp] theorem serviceFree_loader (s : State) : (serviceFree s).loader = s.loader := by
  unfold serviceFree; dsimp only; repeat' split
  all_goals simp

@[simp] theorem serviceFree_queue (s : State) : (serviceFree s).queue = s.queue := by
  unfold serviceFree; dsimp only; repeat' split
  all_goals simp

@[simp] theorem serviceFree_staging (s : State) : (serviceFree s).staging = s.staging := by
  unfold serviceFree; dsimp only; repeat' split
  all_goals simp

@[simp] theorem serviceFree_writer (s : State) : (serviceFree s).writer = s.writer := by
  unfold serviceFree; dsimp only; repeat' split
  all_goals simp

@[simp] theorem serviceFree_health (s : State) : (serviceFree s).health = s.health := by
  unfold serviceFree; dsimp only; repeat' split
  all_goals simp

@[simp] theorem serviceFree_outside (s : State) : (serviceFree s).outside = s.outside := by
  unfold serviceFree; dsimp only; repeat' split
  all_goals simp

@[simp] theorem serviceFree_now (s : State) : (serviceFree s).now = s.now := by
  unfold serviceFree; dsimp only; repeat' split
  all_goals simp

@[simp] theorem serviceFree_choices (s : State) : (serviceFree s).choices = s.choices := by
  unfold serviceFree; dsimp only; repeat' split
  all_goals simp

@[simp] theorem serviceFree_pending (s : State) : (serviceFree s).pending = s.pending := by
  unfold serviceFree; dsimp only; repeat' split
  all_goals simp

@[simp] theorem statusEnds_timer (s : State) : (statusEnds s).timer = s.timer := by
  unfold statusEnds; repeat' split
  all_goals simp

@[simp] theorem statusEnds_store (s : State) : (statusEnds s).store = s.store := by
  unfold statusEnds; repeat' split
  all_goals simp

@[simp] theorem statusEnds_static (s : State) : (statusEnds s).static = s.static := by
  unfold statusEnds; repeat' split
  all_goals simp

@[simp] theorem statusEnds_loader (s : State) : (statusEnds s).loader = s.loader := by
  unfold statusEnds; repeat' split
  all_goals simp

@[simp] theorem statusEnds_queue (s : State) : (statusEnds s).queue = s.queue := by
  unfold statusEnds; repeat' split
  all_goals simp

@[simp] theorem statusEnds_staging (s : State) : (statusEnds s).staging = s.staging := by
  unfold statusEnds; repeat' split
  all_goals simp

@[simp] theorem statusEnds_health (s : State) : (statusEnds s).health = s.health := by
  unfold statusEnds; repeat' split
  all_goals simp

@[simp] theorem statusEnds_outside (s : State) : (statusEnds s).outside = s.outside := by
  unfold statusEnds; repeat' split
  all_goals simp

@[simp] theorem statusEnds_now (s : State) : (statusEnds s).now = s.now := by
  unfold statusEnds; repeat' split
  all_goals simp

@[simp] theorem statusEnds_choices (s : State) : (statusEnds s).choices = s.choices := by
  unfold statusEnds; repeat' split
  all_goals simp

@[simp] theorem statusEnds_pending (s : State) : (statusEnds s).pending = s.pending := by
  unfold statusEnds; repeat' split
  all_goals simp

@[simp] theorem scanNext_control (s : State) : (scanNext s).control = s.control := by
  unfold scanNext; split <;> simp

@[simp] theorem scanNext_timer (s : State) : (scanNext s).timer = s.timer := by
  unfold scanNext; split <;> simp

@[simp] theorem scanNext_cells (s : State) : (scanNext s).cells = s.cells := by
  unfold scanNext; split <;> simp

@[simp] theorem scanNext_store (s : State) : (scanNext s).store = s.store := by
  unfold scanNext; split <;> simp

@[simp] theorem scanNext_static (s : State) : (scanNext s).static = s.static := by
  unfold scanNext; split <;> simp

@[simp] theorem scanNext_loader (s : State) : (scanNext s).loader = s.loader := by
  unfold scanNext; split <;> simp

@[simp] theorem scanNext_queue (s : State) : (scanNext s).queue = s.queue := by
  unfold scanNext; split <;> simp

@[simp] theorem scanNext_staging (s : State) : (scanNext s).staging = s.staging := by
  unfold scanNext; split <;> simp

@[simp] theorem scanNext_writer (s : State) : (scanNext s).writer = s.writer := by
  unfold scanNext; split <;> simp

@[simp] theorem scanNext_health (s : State) : (scanNext s).health = s.health := by
  unfold scanNext; split <;> simp

@[simp] theorem scanNext_outside (s : State) : (scanNext s).outside = s.outside := by
  unfold scanNext; split <;> simp

@[simp] theorem scanNext_now (s : State) : (scanNext s).now = s.now := by
  unfold scanNext; split <;> simp

@[simp] theorem scanNext_choices (s : State) : (scanNext s).choices = s.choices := by
  unfold scanNext; split <;> simp

@[simp] theorem scanNext_pending (s : State) : (scanNext s).pending = s.pending := by
  unfold scanNext; split <;> simp

@[simp] theorem beginScan_control (s : State) : (beginScan s).control = s.control := by
  simp [beginScan]

@[simp] theorem beginScan_timer (s : State) : (beginScan s).timer = s.timer := by
  simp [beginScan]

@[simp] theorem beginScan_cells (s : State) : (beginScan s).cells = s.cells := by
  simp [beginScan]

@[simp] theorem beginScan_store (s : State) : (beginScan s).store = s.store := by
  simp [beginScan]

@[simp] theorem beginScan_static (s : State) : (beginScan s).static = s.static := by
  simp [beginScan]

@[simp] theorem beginScan_loader (s : State) : (beginScan s).loader = s.loader := by
  simp [beginScan]

@[simp] theorem beginScan_queue (s : State) : (beginScan s).queue = s.queue := by
  simp [beginScan]

@[simp] theorem beginScan_staging (s : State) : (beginScan s).staging = s.staging := by
  simp [beginScan]

@[simp] theorem beginScan_writer (s : State) : (beginScan s).writer = s.writer := by
  simp [beginScan]

@[simp] theorem beginScan_health (s : State) : (beginScan s).health = s.health := by
  simp [beginScan]

@[simp] theorem beginScan_outside (s : State) : (beginScan s).outside = s.outside := by
  simp [beginScan]

@[simp] theorem beginScan_now (s : State) : (beginScan s).now = s.now := by
  simp [beginScan]

@[simp] theorem beginScan_choices (s : State) : (beginScan s).choices = s.choices := by
  simp [beginScan]

@[simp] theorem beginScan_pending (s : State) : (beginScan s).pending = s.pending := by
  simp [beginScan]

@[simp] theorem postFrom_control (l : List Nat) (s : State) : (postFrom l s).control = s.control := by
  induction l with
  | nil => simp [postFrom]
  | cons i rest ih => unfold postFrom; split <;> simp [ih]

@[simp] theorem postFrom_timer (l : List Nat) (s : State) : (postFrom l s).timer = s.timer := by
  induction l with
  | nil => simp [postFrom]
  | cons i rest ih => unfold postFrom; split <;> simp [ih]

@[simp] theorem postFrom_cells (l : List Nat) (s : State) : (postFrom l s).cells = s.cells := by
  induction l with
  | nil => simp [postFrom]
  | cons i rest ih => unfold postFrom; split <;> simp [ih]

@[simp] theorem postFrom_store (l : List Nat) (s : State) : (postFrom l s).store = s.store := by
  induction l with
  | nil => simp [postFrom]
  | cons i rest ih => unfold postFrom; split <;> simp [ih]

@[simp] theorem postFrom_static (l : List Nat) (s : State) : (postFrom l s).static = s.static := by
  induction l with
  | nil => simp [postFrom]
  | cons i rest ih => unfold postFrom; split <;> simp [ih]

@[simp] theorem postFrom_loader (l : List Nat) (s : State) : (postFrom l s).loader = s.loader := by
  induction l with
  | nil => simp [postFrom]
  | cons i rest ih => unfold postFrom; split <;> simp [ih]

@[simp] theorem postFrom_queue (l : List Nat) (s : State) : (postFrom l s).queue = s.queue := by
  induction l with
  | nil => simp [postFrom]
  | cons i rest ih => unfold postFrom; split <;> simp [ih]

@[simp] theorem postFrom_staging (l : List Nat) (s : State) : (postFrom l s).staging = s.staging := by
  induction l with
  | nil => simp [postFrom]
  | cons i rest ih => unfold postFrom; split <;> simp [ih]

@[simp] theorem postFrom_writer (l : List Nat) (s : State) : (postFrom l s).writer = s.writer := by
  induction l with
  | nil => simp [postFrom]
  | cons i rest ih => unfold postFrom; split <;> simp [ih]

@[simp] theorem postFrom_health (l : List Nat) (s : State) : (postFrom l s).health = s.health := by
  induction l with
  | nil => simp [postFrom]
  | cons i rest ih => unfold postFrom; split <;> simp [ih]

@[simp] theorem postFrom_outside (l : List Nat) (s : State) : (postFrom l s).outside = s.outside := by
  induction l with
  | nil => simp [postFrom]
  | cons i rest ih => unfold postFrom; split <;> simp [ih]

@[simp] theorem postFrom_now (l : List Nat) (s : State) : (postFrom l s).now = s.now := by
  induction l with
  | nil => simp [postFrom]
  | cons i rest ih => unfold postFrom; split <;> simp [ih]

@[simp] theorem postFrom_choices (l : List Nat) (s : State) : (postFrom l s).choices = s.choices := by
  induction l with
  | nil => simp [postFrom]
  | cons i rest ih => unfold postFrom; split <;> simp [ih]

@[simp] theorem postFrom_pending (l : List Nat) (s : State) : (postFrom l s).pending = s.pending := by
  induction l with
  | nil => simp [postFrom]
  | cons i rest ih => unfold postFrom; split <;> simp [ih]

@[simp] theorem beginPosting_control (s : State) : (beginPosting s).control = s.control := by
  simp [beginPosting]

@[simp] theorem beginPosting_timer (s : State) : (beginPosting s).timer = s.timer := by
  simp [beginPosting]

@[simp] theorem beginPosting_cells (s : State) : (beginPosting s).cells = s.cells := by
  simp [beginPosting]

@[simp] theorem beginPosting_store (s : State) : (beginPosting s).store = s.store := by
  simp [beginPosting]

@[simp] theorem beginPosting_static (s : State) : (beginPosting s).static = s.static := by
  simp [beginPosting]

@[simp] theorem beginPosting_loader (s : State) : (beginPosting s).loader = s.loader := by
  simp [beginPosting]

@[simp] theorem beginPosting_queue (s : State) : (beginPosting s).queue = s.queue := by
  simp [beginPosting]

@[simp] theorem beginPosting_staging (s : State) : (beginPosting s).staging = s.staging := by
  simp [beginPosting]

@[simp] theorem beginPosting_writer (s : State) : (beginPosting s).writer = s.writer := by
  simp [beginPosting]

@[simp] theorem beginPosting_health (s : State) : (beginPosting s).health = s.health := by
  simp [beginPosting]

@[simp] theorem beginPosting_outside (s : State) : (beginPosting s).outside = s.outside := by
  simp [beginPosting]

@[simp] theorem beginPosting_now (s : State) : (beginPosting s).now = s.now := by
  simp [beginPosting]

@[simp] theorem beginPosting_choices (s : State) : (beginPosting s).choices = s.choices := by
  simp [beginPosting]

@[simp] theorem beginPosting_pending (s : State) : (beginPosting s).pending = s.pending := by
  simp [beginPosting]

@[simp] theorem unitEnds_control (s : State) : (unitEnds s).control = s.control := by
  unfold unitEnds; repeat' split
  all_goals simp

@[simp] theorem unitEnds_timer (s : State) : (unitEnds s).timer = s.timer := by
  unfold unitEnds; repeat' split
  all_goals simp

@[simp] theorem unitEnds_cells (s : State) : (unitEnds s).cells = s.cells := by
  unfold unitEnds; repeat' split
  all_goals simp

@[simp] theorem unitEnds_store (s : State) : (unitEnds s).store = s.store := by
  unfold unitEnds; repeat' split
  all_goals simp

@[simp] theorem unitEnds_static (s : State) : (unitEnds s).static = s.static := by
  unfold unitEnds; repeat' split
  all_goals simp

@[simp] theorem unitEnds_loader (s : State) : (unitEnds s).loader = s.loader := by
  unfold unitEnds; repeat' split
  all_goals simp

@[simp] theorem unitEnds_queue (s : State) : (unitEnds s).queue = s.queue := by
  unfold unitEnds; repeat' split
  all_goals simp

@[simp] theorem unitEnds_staging (s : State) : (unitEnds s).staging = s.staging := by
  unfold unitEnds; repeat' split
  all_goals simp

@[simp] theorem unitEnds_writer (s : State) : (unitEnds s).writer = s.writer := by
  unfold unitEnds; repeat' split
  all_goals simp

@[simp] theorem unitEnds_health (s : State) : (unitEnds s).health = s.health := by
  unfold unitEnds; repeat' split
  all_goals simp

@[simp] theorem unitEnds_outside (s : State) : (unitEnds s).outside = s.outside := by
  unfold unitEnds; repeat' split
  all_goals simp

@[simp] theorem unitEnds_now (s : State) : (unitEnds s).now = s.now := by
  unfold unitEnds; repeat' split
  all_goals simp

@[simp] theorem unitEnds_choices (s : State) : (unitEnds s).choices = s.choices := by
  unfold unitEnds; repeat' split
  all_goals simp

@[simp] theorem unitEnds_pending (s : State) : (unitEnds s).pending = s.pending := by
  unfold unitEnds; repeat' split
  all_goals simp

@[simp] theorem stepAEnds_control (s : State) : (stepAEnds s).control = s.control := by
  unfold stepAEnds; split <;> simp

@[simp] theorem stepAEnds_timer (s : State) : (stepAEnds s).timer = s.timer := by
  unfold stepAEnds; split <;> simp

@[simp] theorem stepAEnds_cells (s : State) : (stepAEnds s).cells = s.cells := by
  unfold stepAEnds; split <;> simp

@[simp] theorem stepAEnds_store (s : State) : (stepAEnds s).store = s.store := by
  unfold stepAEnds; split <;> simp

@[simp] theorem stepAEnds_static (s : State) : (stepAEnds s).static = s.static := by
  unfold stepAEnds; split <;> simp

@[simp] theorem stepAEnds_loader (s : State) : (stepAEnds s).loader = s.loader := by
  unfold stepAEnds; split <;> simp

@[simp] theorem stepAEnds_queue (s : State) : (stepAEnds s).queue = s.queue := by
  unfold stepAEnds; split <;> simp

@[simp] theorem stepAEnds_staging (s : State) : (stepAEnds s).staging = s.staging := by
  unfold stepAEnds; split <;> simp

@[simp] theorem stepAEnds_writer (s : State) : (stepAEnds s).writer = s.writer := by
  unfold stepAEnds; split <;> simp

@[simp] theorem stepAEnds_health (s : State) : (stepAEnds s).health = s.health := by
  unfold stepAEnds; split <;> simp

@[simp] theorem stepAEnds_outside (s : State) : (stepAEnds s).outside = s.outside := by
  unfold stepAEnds; split <;> simp

@[simp] theorem stepAEnds_now (s : State) : (stepAEnds s).now = s.now := by
  unfold stepAEnds; split <;> simp

@[simp] theorem stepAEnds_choices (s : State) : (stepAEnds s).choices = s.choices := by
  unfold stepAEnds; split <;> simp

@[simp] theorem stepAEnds_pending (s : State) : (stepAEnds s).pending = s.pending := by
  unfold stepAEnds; split <;> simp

@[simp] theorem handOvers_timer (s : State) : (handOvers s).timer = s.timer := by
  simp [handOvers]

@[simp] theorem handOvers_cells (s : State) : (handOvers s).cells = s.cells := by
  simp [handOvers]

@[simp] theorem handOvers_static (s : State) : (handOvers s).static = s.static := by
  simp [handOvers]

@[simp] theorem handOvers_queue (s : State) : (handOvers s).queue = s.queue := by
  simp [handOvers]

@[simp] theorem handOvers_staging (s : State) : (handOvers s).staging = s.staging := by
  simp [handOvers]

@[simp] theorem handOvers_health (s : State) : (handOvers s).health = s.health := by
  simp [handOvers]

@[simp] theorem handOvers_outside (s : State) : (handOvers s).outside = s.outside := by
  simp [handOvers]

@[simp] theorem handOvers_now (s : State) : (handOvers s).now = s.now := by
  simp [handOvers]

@[simp] theorem handOvers_choices (s : State) : (handOvers s).choices = s.choices := by
  simp [handOvers]

@[simp] theorem handOvers_pending (s : State) : (handOvers s).pending = s.pending := by
  simp [handOvers]

end Sys2Proof.Machine
end

