-- ==== Sys2Proof/Laws/Cells.lean ====
section
/-! SUPPORT. The line cells: reading a cell after an update, and what each operation of a cell can do. -/

namespace Sys2Proof.Machine

/-! ## Reading after an update -/

/-- A cell by its line is the cell by its number. -/
theorem vector_get_eq (v : Vector Cell 16) (l : Line) : v.get l = v[l.val] := rfl

/-- Every cell of the vector is changed by its own function. -/
@[simp] theorem mapCells_get (v : Vector Cell 16) (f : Line → Cell → Cell) (l : Line) :
    (mapCells v f).get l = f l (v.get l) := by
  simp only [mapCells, vector_get_eq, Vector.getElem_ofFn]

/-- The cell that is changed. -/
@[simp] theorem updateCell_get_self (v : Vector Cell 16) (l : Line) (f : Cell → Cell) :
    (updateCell v l f).get l = f (v.get l) := by
  simp only [updateCell, vector_get_eq, Vector.getElem_set_self]

/-- Every other cell stays. -/
theorem updateCell_get_of_ne {v : Vector Cell 16} {l k : Line} {f : Cell → Cell} (h : k ≠ l) :
    (updateCell v l f).get k = v.get k := by
  have h' : ¬ l.val = k.val := fun e => h (Fin.ext e.symm)
  simp only [updateCell, vector_get_eq, Vector.getElem_set_ne l.isLt k.isLt h']

/-- Changing a cell, as seen from any line. -/
theorem updateCell_get (v : Vector Cell 16) (l k : Line) (f : Cell → Cell) :
    (updateCell v l f).get k = if k = l then f (v.get k) else v.get k := by
  by_cases h : k = l
  · subst h; simp
  · simp [h, updateCell_get_of_ne h]

/-- Two vectors of cells with the same cells are equal. -/
theorem cells_ext {v w : Vector Cell 16} (h : ∀ l : Line, v.get l = w.get l) : v = w := by
  apply Vector.ext
  intro i hi
  exact h ⟨i, hi⟩

/-- Every line is among the sixteen. -/
theorem mem_allLines (l : Line) : l ∈ allLines := by
  revert l; decide

/-- The sixteen lines are sixteen different ones. -/
theorem allLines_nodup : allLines.Nodup := by decide

/-! ## Operations of a cell -/

/-- The end of an action at a tick: the cell ends its action, or stays. -/
theorem endDue_cases (c : Cell) (now : Nat) :
    (∃ r, c.running = some r ∧ r.stop ≤ now ∧ c.endDue now = c.endAction) ∨
      ((∀ r, c.running = some r → now < r.stop) ∧ c.endDue now = c) := by
  unfold Cell.endDue
  cases hr : c.running with
  | none => exact .inr ⟨by simp, rfl⟩
  | some r =>
    by_cases h : r.stop ≤ now
    · exact .inl ⟨r, rfl, h, by simp [h]⟩
    · exact .inr ⟨by simp; omega, by simp [h]⟩

@[simp] theorem endDue_settings (c : Cell) (now : Nat) : (c.endDue now).settings = c.settings := by
  rcases endDue_cases c now with ⟨_, _, _, h⟩ | ⟨_, h⟩ <;> rw [h]; rfl

@[simp] theorem endDue_window (c : Cell) (now : Nat) : (c.endDue now).window = c.window := by
  rcases endDue_cases c now with ⟨_, _, _, h⟩ | ⟨_, h⟩ <;> rw [h]; rfl

@[simp] theorem endDue_prevSample (c : Cell) (now : Nat) : (c.endDue now).prevSample = c.prevSample := by
  rcases endDue_cases c now with ⟨_, _, _, h⟩ | ⟨_, h⟩ <;> rw [h]; rfl

/-- A cell that is not DRIVE applies no output action. -/
theorem applyOutput_of_not_drive {c : Cell} (h : c.settings.direction ≠ .drive) (now : Nat) (op : Operation) :
    c.applyOutput now op = c := by
  simp [Cell.applyOutput, h]

@[simp] theorem applyOutput_settings (c : Cell) (now : Nat) (op : Operation) :
    (c.applyOutput now op).settings = c.settings := by
  unfold Cell.applyOutput
  split
  · cases op <;> simp
  · rfl

@[simp] theorem applyOutput_window (c : Cell) (now : Nat) (op : Operation) :
    (c.applyOutput now op).window = c.window := by
  unfold Cell.applyOutput
  split
  · cases op <;> simp
  · rfl

@[simp] theorem openWindow_settings (c : Cell) (now : Nat) (op : Operation) (src : WindowSource) :
    (c.openWindow now op src).settings = c.settings := by
  cases op <;> simp only [Cell.openWindow]
  split <;> rfl

@[simp] theorem openWindow_logical (c : Cell) (now : Nat) (op : Operation) (src : WindowSource) :
    (c.openWindow now op src).logical = c.logical := by
  cases op <;> simp only [Cell.openWindow]
  split <;> rfl

@[simp] theorem openWindow_running (c : Cell) (now : Nat) (op : Operation) (src : WindowSource) :
    (c.openWindow now op src).running = c.running := by
  cases op <;> simp only [Cell.openWindow]
  split <;> rfl

/-- A cell that takes an action keeps its settings. -/
@[simp] theorem take_settings (c : Cell) (now : Nat) (op : Operation) (src : WindowSource) :
    (c.take now op src).settings = c.settings := by
  simp [Cell.take]

@[simp] theorem toRest_settings (c : Cell) : c.toRest.settings = c.settings := by
  unfold Cell.toRest; split <;> rfl

@[simp] theorem toRest_running (c : Cell) : c.toRest.running = c.running := by
  unfold Cell.toRest; split <;> rfl

@[simp] theorem toRest_window (c : Cell) : c.toRest.window = c.window := by
  unfold Cell.toRest; split <;> rfl

@[simp] theorem toRest_prevSample (c : Cell) : c.toRest.prevSample = c.prevSample := by
  unfold Cell.toRest; split <;> rfl

@[simp] theorem toRest_logical (c : Cell) :
    c.toRest.logical = if c.settings.direction = .drive then c.settings.rest else c.logical := by
  unfold Cell.toRest; split <;> rfl

/-- A sample leaves the settings and the level. -/
@[simp] theorem afterSample_settings (c : Cell) (now : Nat) (b : Bool) :
    (c.afterSample now b).settings = c.settings := by
  unfold Cell.afterSample; split <;> rfl

@[simp] theorem afterSample_logical (c : Cell) (now : Nat) (b : Bool) :
    (c.afterSample now b).logical = c.logical := by
  unfold Cell.afterSample; split <;> rfl

@[simp] theorem afterSample_prevSample (c : Cell) (now : Nat) (b : Bool) :
    (c.afterSample now b).prevSample = some b := by
  unfold Cell.afterSample; split <;> rfl

/-- The pin depends on the cell's settings and level alone. -/
theorem pin_congr {c d : Cell} (hs : c.settings = d.settings) (hl : c.logical = d.logical) (e : EngineState) :
    c.pin e = d.pin e := by
  unfold Cell.pin; rw [hs, hl]

end Sys2Proof.Machine
end

