-- ==== Sys2Proof/Laws/Port.lean ====
section
/-! SUPPORT. What the memory port's operations can do, said once: a request, a grant, the end of a transfer. -/

namespace Sys2Proof.Machine

/-! ## Requests -/

/-- The Service Unit's request stands in its slot. -/
@[simp] theorem requestService_port_service (k : TransferKind) (o n : Nat) (s : State) :
    (requestService k o n s).port.service = some { kind := k, address := exchangeAddr s o, length := n } := rfl

/-- The Service Unit's request touches no other item of the port. -/
theorem requestService_port (k : TransferKind) (o n : Nat) (s : State) :
    (requestService k o n s).port =
      { s.port with service := some { kind := k, address := exchangeAddr s o, length := n } } := rfl

/-- The Journal Writer's poll fills its own slot or nothing. -/
theorem pollWriter_port (s : State) :
    (pollWriter s).port = s.port ∨ (pollWriter s).port =
      { s.port with writer := some { kind := .journalWrite, address := s.writer.slotAddr, length := 32 } } := by
  unfold pollWriter
  dsimp only
  split
  · exact .inr rfl
  · exact .inl rfl

@[simp] theorem pollWriter_port_service (s : State) : (pollWriter s).port.service = s.port.service := by
  rcases pollWriter_port s with h | h <;> rw [h]

@[simp] theorem pollWriter_port_loader (s : State) : (pollWriter s).port.loader = s.port.loader := by
  rcases pollWriter_port s with h | h <;> rw [h]

@[simp] theorem pollWriter_port_outstanding (s : State) : (pollWriter s).port.outstanding = s.port.outstanding := by
  rcases pollWriter_port s with h | h <;> rw [h]

@[simp] theorem pollWriter_port_timeout (s : State) : (pollWriter s).port.timeout = s.port.timeout := by
  rcases pollWriter_port s with h | h <;> rw [h]

@[simp] theorem pollWriter_port_busFaults (s : State) : (pollWriter s).port.busFaults = s.port.busFaults := by
  rcases pollWriter_port s with h | h <;> rw [h]

/-! ## Grants -/

/-- A grant to a requester that waits issues its request. -/
theorem grantTo_of_waiting {q : Requester} {s : State} {w : Waiting} (h : s.port.waiting q = some w) :
    grantTo q s =
      { s with
        service := s.service.issued (snapshotOf s) w.kind
        port := s.port.issue q w (transferData s w.kind) s.now } := by
  simp [grantTo, h]

/-- A grant to a requester that does not wait does nothing. -/
theorem grantTo_of_idle {q : Requester} {s : State} (h : s.port.waiting q = none) : grantTo q s = s := by
  simp [grantTo, h]

/-- Issuing a transfer leaves the work of the Service Unit. -/
theorem issued_sameWork (v : Service) (p : Snapshot) (k : TransferKind) : v.SameWork (v.issued p k) := by
  cases k <;> simp only [Service.issued, Service.SameWork] <;> (try split) <;> simp

theorem sameWork_rfl (v : Service) : v.SameWork v := by simp [Service.SameWork]

/-- A grant leaves the work of the Service Unit. -/
theorem grantTo_sameWork (q : Requester) (s : State) : s.service.SameWork (grantTo q s).service := by
  cases h : s.port.waiting q with
  | none => rw [grantTo_of_idle h]; exact sameWork_rfl _
  | some w => rw [grantTo_of_waiting h]; exact issued_sameWork _ _ _

@[simp] theorem grantTo_timeout (q : Requester) (s : State) : (grantTo q s).port.timeout = s.port.timeout := by
  cases h : s.port.waiting q with
  | none => rw [grantTo_of_idle h]
  | some w => rw [grantTo_of_waiting h]; rfl

@[simp] theorem grantTo_busFaults (q : Requester) (s : State) : (grantTo q s).port.busFaults = s.port.busFaults := by
  cases h : s.port.waiting q with
  | none => rw [grantTo_of_idle h]
  | some w => rw [grantTo_of_waiting h]; rfl

/-- Issuing a request of one requester leaves another's waiting. -/
theorem issue_waiting {p : Port} {q r : Requester} {w : Waiting} {d : List Byte} {now : Nat} (h : r ≠ q) :
    (p.issue q w d now).waiting r = p.waiting r := by
  cases q <;> cases r <;> first | rfl | exact absurd rfl h

/-- After a grant, a request that waited is still asked for: it was issued, or it goes on waiting. -/
theorem grantTo_asks {q r : Requester} {s : State} {w : Waiting} (h : s.port.waiting r = some w) :
    (grantTo q s).Asks r w.kind w.address w.length := by
  by_cases e : r = q
  · subst e
    rw [grantTo_of_waiting h]
    exact .inr ⟨_, rfl, rfl, rfl, rfl, rfl, rfl, rfl, rfl⟩
  · cases k : s.port.waiting q with
    | none => rw [grantTo_of_idle k]; exact .inl h
    | some v => rw [grantTo_of_waiting k]; exact .inl ((issue_waiting e).trans h)

/-- A request that waits is asked for. -/
theorem asks_of_waiting {r : Requester} {s : State} {w : Waiting} (h : s.port.waiting r = some w) :
    s.Asks r w.kind w.address w.length := .inl h

theorem grantFree_asks {r : Requester} {s : State} {w : Waiting} (h : s.port.waiting r = some w) :
    (grantFree s).Asks r w.kind w.address w.length := by
  unfold grantFree
  split
  · exact asks_of_waiting h
  · split
    · exact grantTo_asks h
    · exact asks_of_waiting h

theorem grantAtEnd_asks {r : Requester} {s : State} {w : Waiting} (b : Port) (h : s.port.waiting r = some w) :
    (grantAtEnd b s).Asks r w.kind w.address w.length := by
  unfold grantAtEnd
  dsimp only
  split
  · exact grantTo_asks (s := { s with choices := s.choices + 1 }) h
  · exact .inl h

theorem grantFree_sameWork (s : State) : s.service.SameWork (grantFree s).service := by
  unfold grantFree
  split
  · exact sameWork_rfl _
  · split
    · exact grantTo_sameWork _ _
    · exact sameWork_rfl _

theorem grantAtEnd_sameWork (b : Port) (s : State) : s.service.SameWork (grantAtEnd b s).service := by
  unfold grantAtEnd
  dsimp only
  split
  · exact grantTo_sameWork _ { s with choices := s.choices + 1 }
  · exact sameWork_rfl _

@[simp] theorem grantFree_timeout (s : State) : (grantFree s).port.timeout = s.port.timeout := by
  unfold grantFree; split <;> [rfl; split <;> simp]

@[simp] theorem grantFree_busFaults (s : State) : (grantFree s).port.busFaults = s.port.busFaults := by
  unfold grantFree; split <;> [rfl; split <;> simp]

@[simp] theorem grantAtEnd_timeout (b : Port) (s : State) : (grantAtEnd b s).port.timeout = s.port.timeout := by
  unfold grantAtEnd; dsimp only; split <;> simp

@[simp] theorem grantAtEnd_busFaults (b : Port) (s : State) : (grantAtEnd b s).port.busFaults = s.port.busFaults := by
  unfold grantAtEnd; dsimp only; split <;> simp

@[simp] theorem settlePort_timeout (s : State) : (settlePort s).port.timeout = s.port.timeout := by simp [settlePort]

@[simp] theorem settlePort_busFaults (s : State) : (settlePort s).port.busFaults = s.port.busFaults := by
  simp [settlePort]

/-- A busy port grants nothing. -/
theorem grantFree_of_busy {s : State} (h : s.port.outstanding.isSome = true) : grantFree s = s := by
  simp [grantFree, h]

/-! ## Ends of transfers -/

/-- The end of a transfer that is still wanted, by a response that answers it. -/
theorem respond_of_live {e : Transfer → Option (State → State)} {f : State → State} {s : State} {x : Transfer}
    (h : s.port.outstanding = some x) (k : x.discard = false) (a : e x = some f) :
    respond e s = grantAtEnd s.port (pollWriter (f { s with port := { s.port with outstanding := none } })) := by
  simp [respond, h, a, k, endTransfer]

/-- The end of a discarded transfer, by a response that answers it. -/
theorem respond_of_discarded {e : Transfer → Option (State → State)} {f : State → State} {s : State} {x : Transfer}
    (h : s.port.outstanding = some x) (k : x.discard = true) (a : e x = some f) :
    respond e s = grantAtEnd s.port (pollWriter { s with port := { s.port with outstanding := none } }) := by
  simp [respond, h, a, k, endTransfer]

/-- A response that answers no outstanding transfer. -/
theorem respond_of_none {e : Transfer → Option (State → State)} {s : State}
    (h : ∀ x, s.port.outstanding = some x → e x = none) : respond e s = s := by
  unfold respond
  split
  · rfl
  · rename_i x hx
    rw [h x hx]

end Sys2Proof.Machine
end

