-- ==== Sys2Proof/Laws/Staging.lean ====
section
/-! SUPPORT. Capture Staging: what offering and judging records can do, and the frame of an offer. -/

namespace Sys2Proof.Machine

/-! ## Offers -/

@[simp] theorem offerAll_nil (st : Staging) (d : Bool) (p : Word × Nat) : st.offerAll d [] p = st := rfl

@[simp] theorem offerAll_cons (st : Staging) (d : Bool) (b : RecordBody) (bs : List RecordBody) (p : Word × Nat) :
    st.offerAll d (b :: bs) p = (st.offer d b p).offerAll d bs p := rfl

/-- Records offered in two parts join as if offered at once. -/
theorem offerAll_append (st : Staging) (d : Bool) (as bs : List RecordBody) (p : Word × Nat) :
    st.offerAll d (as ++ bs) p = (st.offerAll d as p).offerAll d bs p := by
  simp [Staging.offerAll, List.foldl_append]

/-- R112 to R114: an offered record joins at the back, or waits for the head's place, or is lost. -/
theorem offer_cases (st : Staging) (d : Bool) (b : RecordBody) (p : Word × Nat) :
    (st.records.length < 32 ∧ st.offer d b p = st.join b p) ∨
      (32 ≤ st.records.length ∧ d = true ∧ st.offer d b p =
        { st with offered := st.offered ++ [{ body := b, frame := p.1, time := p.2 }] }) ∨
      (32 ≤ st.records.length ∧ d = false ∧ st.offer d b p = st.loseOffer b) := by
  unfold Staging.offer Staging.full Config.stagingPlaces
  by_cases h : 32 ≤ st.records.length
  · cases d
    · exact .inr (.inr ⟨h, rfl, by simp [h]⟩)
    · exact .inr (.inl ⟨h, rfl, by simp [h]⟩)
  · exact .inl ⟨by omega, by simp [h]⟩

/-- R112: an offer keeps staging within its 32 places. -/
theorem offer_length_le {st : Staging} (h : st.records.length ≤ 32) (d : Bool) (b : RecordBody) (p : Word × Nat) :
    (st.offer d b p).records.length ≤ 32 := by
  rcases offer_cases st d b p with ⟨hl, e⟩ | ⟨_, _, e⟩ | ⟨_, _, e⟩ <;> rw [e]
  · simp [Staging.join]; omega
  · exact h
  · exact h

/-- R112: any number of offers keeps staging within its 32 places. -/
theorem offerAll_length_le {st : Staging} (h : st.records.length ≤ 32) (d : Bool) (bs : List RecordBody)
    (p : Word × Nat) : (st.offerAll d bs p).records.length ≤ 32 := by
  induction bs generalizing st with
  | nil => exact h
  | cons b bs ih => exact ih (offer_length_le h d b p)

/-- An offer with no write of the head at the port leaves the records that wait. -/
@[simp] theorem offer_false_offered (st : Staging) (b : RecordBody) (p : Word × Nat) :
    (st.offer false b p).offered = st.offered := by
  rcases offer_cases st false b p with ⟨_, e⟩ | ⟨_, h, _⟩ | ⟨_, _, e⟩
  · rw [e]; rfl
  · exact absurd h (by decide)
  · rw [e]; rfl

/-- R112: records wait only while staging is full. -/
theorem offer_late {st : Staging} (h : st.offered ≠ [] → 32 ≤ st.records.length) (d : Bool) (b : RecordBody)
    (p : Word × Nat) : (st.offer d b p).offered ≠ [] → 32 ≤ (st.offer d b p).records.length := by
  rcases offer_cases st d b p with ⟨_, e⟩ | ⟨hl, _, e⟩ | ⟨hl, _, e⟩ <;> rw [e]
  · intro k
    have := h k
    simp [Staging.join]; omega
  · exact fun _ => hl
  · exact fun _ => hl

/-! ## Judging -/

/-- Offers one by one with no write of the head at the port. -/
theorem foldl_offer_false_offered (os : List Offer) (st : Staging) :
    (os.foldl (fun st o => st.offer false o.body (o.frame, o.time)) st).offered = st.offered := by
  induction os generalizing st with
  | nil => rfl
  | cons o os ih => simp [ih]

theorem foldl_offer_length_le (os : List Offer) {st : Staging} (h : st.records.length ≤ 32) :
    (os.foldl (fun st o => st.offer false o.body (o.frame, o.time)) st).records.length ≤ 32 := by
  induction os generalizing st with
  | nil => exact h
  | cons o os ih => exact ih (offer_length_le h false o.body _)

/-- After the judgement no record waits. -/
@[simp] theorem judge_offered (st : Staging) : st.judge.offered = [] := by
  simp [Staging.judge, foldl_offer_false_offered]

/-- With no record waiting there is nothing to judge. -/
theorem judge_of_nil {st : Staging} (h : st.offered = []) : st.judge = st := by
  obtain ⟨r, a, l, o, n⟩ := st
  subst h
  rfl

/-- R112: the judgement keeps staging within its 32 places. -/
theorem judge_length_le {st : Staging} (h : st.records.length ≤ 32) : st.judge.records.length ≤ 32 :=
  foldl_offer_length_le _ h

/-! ## The losses of the present tick -/

@[simp] theorem loseOffer_records (st : Staging) (b : RecordBody) : (st.loseOffer b).records = st.records := rfl
@[simp] theorem loseOffer_offered (st : Staging) (b : RecordBody) : (st.loseOffer b).offered = st.offered := rfl
@[simp] theorem loseOffer_lost (st : Staging) (b : RecordBody) : (st.loseOffer b).lost = st.lost + 1 := rfl
@[simp] theorem endTick_records (st : Staging) : st.endTick.records = st.records := rfl
@[simp] theorem endTick_offered (st : Staging) : st.endTick.offered = st.offered := rfl
@[simp] theorem endTick_lost (st : Staging) : st.endTick.lost = st.lost := rfl
@[simp] theorem endTick_lostNow (st : Staging) : st.endTick.lostNow = 0 := rfl

/-- R34, R107: a capture or mark offered at the tick of a HALT leaves what HALT leaves without it. -/
theorem discard_offer {b : RecordBody} (h : b.undoneByHalt = true) (st : Staging) (d : Bool) (p : Word × Nat) :
    (st.offer d b p).discard = st.discard := by
  rcases offer_cases st d b p with ⟨_, e⟩ | ⟨_, _, e⟩ | ⟨_, _, e⟩ <;> rw [e]
  · rfl
  · simp [Staging.discard, h]
  · simp [Staging.discard, Staging.loseOffer, Staging.lose, h]

/-- R34, R107: the same of any number of them. -/
theorem discard_offerAll {bs : List RecordBody} (h : ∀ b ∈ bs, b.undoneByHalt = true) (st : Staging) (d : Bool)
    (p : Word × Nat) : (st.offerAll d bs p).discard = st.discard := by
  induction bs generalizing st with
  | nil => rfl
  | cons b bs ih =>
    rw [offerAll_cons, ih fun c hc => h c (List.mem_cons_of_mem _ hc), discard_offer (h b List.mem_cons_self)]

/-! ## The frame of an offer -/

/-- An offer changes staging and the report of a loss alone. -/
theorem offer_eq (bs : List RecordBody) (p : Word × Nat) (s : State) :
    offer bs p s =
      { s with staging := s.staging.offerAll s.journalWriteOutstanding bs p
               health := s.health.reportLoss
                 (s.frameRunning && !s.journalWriteOutstanding && s.staging.losesSome bs.length) } := rfl

/-- The report of a loss leaves everything of the Health Monitor but the present tick's reports. -/
theorem reportLoss_eq (h : Health) (b : Bool) :
    h.reportLoss b = { h with faultsNow := { h.faultsNow with loss := h.faultsNow.loss || b } } := rfl

/-- R113, R118: the head record lost or written leaves the others. -/
theorem dropHead_length_le {st : Staging} (h : st.records.length ≤ 32) : st.dropHead.records.length ≤ 32 := by
  simp [Staging.dropHead]; omega

/-- R114: the lost-before count is the accumulator, at most 65,535. -/
theorem lostBeforeOf_eq (x : Word) : lostBeforeOf x = BitVec.ofNat 16 (min 65535 x.toNat) := by
  unfold lostBeforeOf
  split
  · rw [Nat.min_eq_left (by omega)]; rfl
  · apply BitVec.eq_of_toNat_eq
    rw [Nat.min_eq_right (by omega)]
    simp

end Sys2Proof.Machine
end

