-- ==== Sys2Proof/Laws/Spot.lean ====
section
/-! SUPPORT. The Spot Queue: what each operation leaves of the entries, and when an entry expires, is placed or leaves. -/

namespace Sys2Proof.Machine

/-! ## The board indexes -/

/-- R97: an entry that becomes FINISHED keeps its board index. -/
@[simp] theorem finish_board (e : Entry) (g : Ending) (d : OutcomeDetail) (b : Bool) : (e.finish g d b).board = e.board := rfl

@[simp] theorem place_board (e : Entry) (m : Nat) : (e.place m).board = e.board := rfl

@[simp] theorem expire_board (f : Word) (e : Entry) : (e.expire f).board = e.board := by
  unfold Entry.expire; split <;> rfl

@[simp] theorem revalidate_board (plan : List Byte) (e : Entry) : (e.revalidate plan).board = e.board := by
  unfold Entry.revalidate
  split
  · split
    · rfl
    · split <;> rfl
  · rfl

/-- A change of the entry of one board index that keeps the index keeps every index. -/
theorem onBoard_boards (q : Queue) (board : Nat) (f : Entry → Entry) (h : ∀ e, (f e).board = e.board) :
    (q.onBoard board f).entries.map Entry.board = q.entries.map Entry.board := by
  simp only [Queue.onBoard, List.map_map]
  apply List.map_congr_left
  intro e _
  simp only [Function.comp]
  split <;> simp [h]

/-- A window report keeps every index. -/
theorem report_boards (q : Queue) (r : Option (Nat × Nat)) :
    (q.report r).entries.map Entry.board = q.entries.map Entry.board := by
  cases r with
  | none => rfl
  | some p => exact onBoard_boards q p.1 _ fun _ => rfl

/-- Window reports keep every index. -/
theorem reports_boards (q : Queue) (rs : List (Option (Nat × Nat))) :
    (q.reports rs).entries.map Entry.board = q.entries.map Entry.board := by
  induction rs generalizing q with
  | nil => rfl
  | cons r rs ih => exact (ih (q.report r)).trans (report_boards q r)

/-- R105: revalidation keeps every index. -/
theorem revalidate_boards (q : Queue) (plan : List Byte) :
    (q.revalidate plan).entries.map Entry.board = q.entries.map Entry.board := by
  simp [Queue.revalidate, Function.comp_def]

/-- R100: the walk keeps every index. -/
theorem placeWalk_boards (g : Geometry) (f : Word) (held : Bool) (m : Nat) (es : List Entry) :
    (placeWalk g f held m es).1.map Entry.board = es.map Entry.board := by
  induction es generalizing m with
  | nil => rfl
  | cons e rest ih =>
    unfold placeWalk
    split
    · split
      · simp [ih]
      · rfl
    · simp [ih]

/-- R99, R100: the dynamic-phase start keeps every index. -/
theorem dynamicPhase_boards (q : Queue) (g : Geometry) (f : Word) (held : Bool) :
    (q.dynamicPhase g f held).entries.map Entry.board = q.entries.map Entry.board := by
  simp [Queue.dynamicPhase, placeWalk_boards, Function.comp_def]

/-- R94: insertion adds the entry and keeps the others. -/
theorem insertEntry_perm (e : Entry) (es : List Entry) : (insertEntry e es).Perm (e :: es) := by
  induction es with
  | nil => exact .refl _
  | cons x rest ih =>
    unfold insertEntry
    split
    · exact .refl _
    · exact (List.Perm.cons x ih).trans (List.Perm.swap e x rest)

/-! ## The fields an operation of the queue leaves -/

@[simp] theorem onBoard_nextTake (q : Queue) (b : Nat) (f : Entry → Entry) : (q.onBoard b f).nextTake = q.nextTake := rfl
@[simp] theorem onBoard_runList (q : Queue) (b : Nat) (f : Entry → Entry) : (q.onBoard b f).runList = q.runList := rfl
@[simp] theorem onBoard_nextFree (q : Queue) (b : Nat) (f : Entry → Entry) : (q.onBoard b f).nextFree = q.nextFree := rfl
@[simp] theorem onBoard_action (q : Queue) (b : Nat) (f : Entry → Entry) : (q.onBoard b f).action = q.action := rfl
@[simp] theorem onBoard_length (q : Queue) (b : Nat) (f : Entry → Entry) :
    (q.onBoard b f).entries.length = q.entries.length := by simp [Queue.onBoard]

/-- A window report changes entries alone. -/
theorem report_eq (q : Queue) (r : Option (Nat × Nat)) : q.report r = { q with entries := (q.report r).entries } := by
  cases r <;> rfl

/-- Window reports change entries alone. -/
theorem reports_eq (q : Queue) (rs : List (Option (Nat × Nat))) : q.reports rs = { q with entries := (q.reports rs).entries } := by
  induction rs generalizing q with
  | nil => rfl
  | cons r rs ih =>
    calc q.reports (r :: rs) = (q.report r).reports rs := rfl
      _ = { q.report r with entries := ((q.report r).reports rs).entries } := ih _
      _ = { q with entries := ((q.report r).reports rs).entries } := by rw [report_eq q r]

/-! ## Expiry -/

/-- R98, R99: when an entry expires. -/
theorem expires_iff (e : Entry) (f : Word) :
    e.expires f = true ↔ e.status = .waiting ∧ (f - e.earliest).toNat < 2147483648 ∧ e.request.deadline ≠ 0
      ∧ e.request.deadline.toNat < (f - e.earliest).toNat := by
  have h : e.request.deadline.toNat = 0 ↔ e.request.deadline = 0 := by simp [BitVec.toNat_eq]
  simp [Entry.expires, Entry.due, atOrAfter, and_assoc, h]

/-- R98: when an entry is due. -/
theorem due_iff (e : Entry) (f : Word) :
    e.due f = true ↔ e.status = .waiting ∧ (f - e.earliest).toNat < 2147483648 := by
  simp [Entry.due, atOrAfter]

end Sys2Proof.Machine
end

