-- ==== Sys2Proof/Tests/Slice0.lean ====
section
/-! SUPPORT. The author's tests: ill-formed commands are refused by the check, worked values of the spec, and for every statement
that has hypotheses a state and operands that meet all of them, at the boundary of each clause. -/

namespace Sys2Proof.Tests

open Sys2Proof Sys2Proof.Machine

/- The tests are many and small: checked one after another they hold few threads, each of which reserves a whole stack. -/
set_option Elab.async false

/-! ## WellFormed -/

theorem test_code_of_load_is_not_unknown : (Instr.unknownCommandCode 1).wellFormed = false := by decide
theorem test_code_of_clear_is_not_unknown : (Instr.unknownCommandCode 0xABCDEF06).wellFormed = false := by decide
theorem test_code_zero_is_unknown : (Instr.unknownCommandCode 0).wellFormed = true := by decide
theorem test_code_seven_is_unknown : (Instr.unknownCommandCode 7).wellFormed = true := by decide
theorem test_cmd_write_is_not_ignored : (Instr.ignoredRegisterWrite 12 4 0).wellFormed = false := by decide
theorem test_mask_write_is_not_ignored : (Instr.ignoredRegisterWrite 28 4 0).wellFormed = false := by decide
theorem test_byte_write_is_ignored : (Instr.ignoredRegisterWrite 12 1 0).wellFormed = true := by decide
theorem test_odd_offset_is_ignored : (Instr.ignoredRegisterWrite 13 4 0).wellFormed = true := by decide
theorem test_offset_past_the_port_is_ignored : (Instr.ignoredRegisterWrite 32 4 0).wellFormed = true := by decide

/-! ## Helper states -/

/-- The reset state in an engine state, with a pending command. -/
def inEngine (e : EngineState) (p : PendingCommand) : State :=
  { State.reset with control := { Control.reset with engine := e, pending := p } }

/-- A state with another setup in force. -/
def withSetup (s : State) (f : Setup → Setup) : State := { s with control := { s.control with setup := f s.control.setup } }

/-- A geometry of two slots of 16 ticks, three minislots of 8 ticks, and 3,000 ticks in all. -/
def geometry : Geometry :=
  { frameLength := 3000, slots := 2, slotLength := 16, minislots := 3, minislotLength := 8, latestStart := 2 }

/-- The reset state in an engine state, inside a frame of that geometry. -/
def inFrame (e : EngineState) (p : PendingCommand) (time : Nat) (phase : Phase) : State :=
  { inEngine e p with
    timer := { Timer.reset with frameTime := some time, geometry := geometry, phase := phase, current := 0, nextFrame := 1 } }

/-- A state with a transfer at the port. -/
def carrying (s : State) (k : TransferKind) (length : Nat) (discard : Bool) : State :=
  { s with
    port :=
      { s.port with
        outstanding := some
          { kind := k, address := 0, length := length, data := [], requester := .service, issueTick := 0,
            expiryTick := 100, discard := discard } } }

/-- A state with the Service Unit at work. -/
def working (s : State) (a : Activity) : State := { s with service := { s.service with activity := a } }

/-- A state in external mode whose SYNC_IN sample is low, tolerance 5. -/
def external (s : State) : State :=
  let t := withSetup s fun u => { u with mode := .external, tolerance := 5 }
  { t with timer := { t.timer with syncSample := some false } }

/-- Bytes of a section from a list, zeros after it. -/
def bytes (n : Nat) (l : List Byte) : Vector Byte n := Vector.ofFn fun k => l.getD k.val 0

/-- A setup section that passes every check: journal at 8,192 with 16 slots, 2 board entries, timeout 64, hold 1. -/
def setupBytes : Vector Byte 64 :=
  bytes 64 [0, 32, 0, 0, 0, 0, 0, 0, 16, 0, 0, 0, 2, 0, 0, 0, 64, 0, 0, 0, 0, 0, 0, 0, 1, 0, 0]

/-- A plan header of two slots of 16 ticks with one action, generation 7, and line 0 DRIVE; then a SET at offset 3 of slot 0.
-/
def planBytes : List Byte :=
  [1, 2, 1, 0, 7, 0, 0, 0, 0, 0, 0, 0, 0xB8, 11, 0, 0, 3, 0, 16, 0, 8, 0, 2, 0, 176, 0, 0, 0, 0, 0, 0, 0]
    ++ [1, 0, 1, 0, 0, 0, 0, 0] ++ List.replicate 120 0
    ++ [0, 0, 1, 0, 0, 1, 0, 0, 3, 0, 0, 0, 0, 0, 0, 0]

/-- A store whose bank 0 is CURRENT with that plan. -/
def planStore : Store :=
  { bank0 := { state := .current, generation := 7, content := planBytes }, bank1 := .free, pendingNow := false }

/-- A request for a PULSE of 10 ticks on line 0. -/
def pulseRequest : Request :=
  { kind := 2, line := 0, opEdge := 0, maxCaptures := 0, priority := 0, atOnce := 1, deadline := 3, earliest := 0,
    p1 := 10, p2 := 0, p3 := 0 }

/-- A queue entry of that request. -/
def pulseEntry (board : Nat) (status : EntryStatus) : Entry :=
  { board := board, tag := 9, request := pulseRequest, earliest := 5, take := 0, status := status, startMinislot := none,
    ending := .none, result := .idle }

/-- A board entry read as POSTED, with that request. -/
def postedBytes : Vector Byte 48 :=
  bytes 48 [1, 0, 0, 0, 9, 0, 0, 0, 2, 0, 0, 0, 0, 1, 3, 0, 0, 0, 0, 0, 10, 0]

/-- A posted entry whose kind code has no meaning. -/
def badKindBytes : Vector Byte 48 := bytes 48 [1, 0, 0, 0, 9, 0, 0, 0, 6]

/-- A DRIVE cell at rest level 0, and a SENSE cell. -/
def driveCell : Cell := { Cell.reset with settings := { LineSettings.off with direction := .drive, safe := true } }
def senseCell : Cell := { Cell.reset with settings := { LineSettings.off with direction := .sense } }

/-- A window of BOTH edges with two captures left, to close at tick 50. -/
def someWindow : Window := { edge := .both, left := 2, made := 0, closeTick := 50, source := .spot 3 9 }

/-- The answer's state, when there is one. -/
def nextOf (o : Host.Outcome State Fault Refusal) : Option State :=
  match o with
  | .next t => some t
  | .fault _ => none
  | .refused _ => none

/-- Whether an answer is a next state that satisfies `p`. -/
def nextHas (o : Host.Outcome State Fault Refusal) (p : State → Bool) : Bool := (nextOf o).any p

/-! ## Values of the spec -/

/-- R42: the check value of the nine characters 1 to 9. -/
theorem test_crc_of_nine_digits :
    crcFinish (crcBytes 0xFFFFFFFF [0x31, 0x32, 0x33, 0x34, 0x35, 0x36, 0x37, 0x38, 0x39]) = 0xCBF43926 := by
  decide +kernel

/-- 00: serial comparison across the wrap. -/
theorem test_serial_order_wraps : atOrAfter 1 0xFFFFFFFF = true ∧ atOrAfter 0xFFFFFFFF 1 = false := by decide

/-- R172: IDENT: vendor D5h, part 416, revision 1. -/
theorem test_ident : State.reset.readRegister 0 4 = 0x0D51A001 := by decide +kernel

/-- R175: fields are little-endian. -/
theorem test_word_is_little_endian : word [0x78, 0x56, 0x34, 0x12] 0 = 0x12345678 := by decide

/-- R40: a BURST's duration is not truncated. -/
theorem test_burst_duration : (Operation.burst 65535 1 65535).duration = 4294836225 := by decide

/-- R80: the length in minislots is rounded up, and at least 1. -/
theorem test_length_in_minislots :
    lengthInMinislots 8 8 = 1 ∧ lengthInMinislots 9 8 = 2 ∧ lengthInMinislots 0 8 = 1 := by decide

/-- R130: the second status write is 64 bytes and the first 32; R110: a record is 32. -/
theorem test_status_lengths :
    (statusSecondBytes .zero).length = 64 ∧ (statusFirstBytes .zero).length = 32
      ∧ (recordBytes { body := .mark 1 2, frame := 0, time := 0, lostBefore := 0 }).length = 32
      ∧ (recordBytes { body := .capture 3 .rise (.spot 1 2), frame := 0, time := 0, lostBefore := 0 }).length = 32
      ∧ (recordBytes { body := .capture 3 .rise (.static 1 2), frame := 0, time := 0, lostBefore := 0 }).length = 32
      ∧ (recordBytes { body := .planSwitch 1 2, frame := 0, time := 0, lostBefore := 0 }).length = 32
      ∧ (recordBytes { body := .state .held .health, frame := 0, time := 0, lostBefore := 0 }).length = 32
      ∧ (resultBytes .idle).length = 16 := by decide

/-- R43: the worked plan passes nine of the ten checks; its check word is zero, so the first check fails. -/
theorem test_plan_with_a_wrong_check_word : planFailure planBytes 0 0 = some .badCheck := by decide +kernel
theorem test_plan_passes : planFailure planBytes 0xFFFFFFFF 0 = none := by decide +kernel
theorem test_plan_length : planBytes.length = planLength 1 := by decide +kernel

/-- R45: the frame is one tick too short for its service window. -/
theorem test_geometry_of_one_tick_less :
    badGeometry { geometry with frameLength := 2104 } 0 = false ∧ badGeometry { geometry with frameLength := 2103 } 0 = true := by
  decide

/-! ## One step each -/

theorem test_start_runs : nextHas (exec .start (inEngine .armed .none)) (fun t => t.control.engine == .running) = true := by
  decide +kernel

theorem test_start_external_waits :
    nextHas (exec .start (external (inEngine .armed .none))) (fun t => t.control.engine == .syncWait) = true := by
  decide +kernel

theorem test_halt_releases_the_frame :
    nextHas (exec .halt (inFrame .running .stop 10 .none)) (fun t =>
      t.control.engine == .halted && t.timer.frameTime.isNone && t.control.readback.outcome == .overridden) = true := by
  decide +kernel

theorem test_internal_frame_end :
    nextHas (exec .internalFrameEnd (inFrame .running .none 3000 .service)) (fun t =>
      t.timer.frameTime == some 0 && t.timer.current == 1 && t.timer.lastLength == 3000) = true := by
  decide +kernel

theorem test_missing_edge_is_a_sync_fault :
    nextHas (exec .syncMissing (external (inFrame .running .none 3005 .service))) (fun t =>
      t.timer.frameTime == some 0 && t.health.syncFaults == 1) = true := by
  decide +kernel

theorem test_static_action_sets_its_line :
    nextHas (exec .staticActionStart
      { inFrame .running .none 3 (.static 0) with
        store := planStore, static := { active := true, next := 0, frame := 0 },
        cells := Vector.replicate 16 driveCell })
      (fun t => (t.cells.get 0).logical && !(t.cells.get 1).logical && t.static.next == 1) = true := by
  decide +kernel

theorem test_setup_read_asks_for_host_control :
    nextHas (exec (.setupReadDone setupBytes) (carrying (inEngine .loading .load) .setupRead 64 false)) (fun t =>
      t.port.timeout == 64 && t.port.outstanding.any (fun x => x.kind == .hostControlRead && x.address == 64)) = true := by
  decide +kernel

theorem test_posted_request_is_taken :
    nextHas (exec (.boardEntryReadDone postedBytes)
      { carrying (working (inFrame .running .none 100 .service) .pass) (.boardRead 0) 48 false with store := planStore })
      (fun t => t.queue.entries.length == 1 && t.port.outstanding.any (fun x => x.kind == .stateWrite 0 .taken)) = true := by
  decide +kernel

theorem test_a_failed_journal_write_loses_its_record :
    nextHas (exec .busError
      { carrying (inEngine .armed .none) .journalWrite 32 false with
        staging := Staging.reset.offer false (.mark 1 2) (0, 0) })
      (fun t => t.staging.records.isEmpty && t.staging.lost == 1 && t.port.busFaults == 1) = true := by
  decide +kernel

theorem test_a_queue_at_rest_counts_a_tick :
    nextHas (step (inEngine .armed .none)) (fun t => t.now == 1 && t.timer.syncSample == some false) = true := by
  decide +kernel

theorem test_a_due_frame_end_joins_the_queue :
    nextHas (step (inFrame .running .none 3000 .service)) (fun t => t.pending == [.internalFrameEnd]) = true := by
  decide +kernel

/-! ## Hypotheses that can be met: the queue and the invariants -/

theorem witness_a_due_event : ∃ s c, s.pending = [] ∧ dueEvent s = some c :=
  ⟨inFrame .running .none 3000 .service, .internalFrameEnd, rfl, by decide +kernel⟩

theorem witness_no_due_event : ∃ s : State, s.pending = [] ∧ dueEvent s = none ∧ s.timer.frameTime = some 2999 :=
  ⟨inFrame .running .none 2999 .service, rfl, by decide +kernel, rfl⟩

/-- Log 4: at the last tick of a frame with SYNC_OUT still high, the frame end is due before the end of the pulse. -/
theorem test_due_events_in_order :
    let s := inFrame .running .none 3000 .service
    let z := { s with timer := { s.timer with syncOut := true } }
    dueEvent z = some .internalFrameEnd
      ∧ dueEvent { z with timer := { z.timer with frameTime := some 2999 } } = some .syncOutPulseEnd := by
  decide +kernel

/-- The reset state meets the invariants: each clause by its own field. -/
theorem test_reset_is_bounded : State.reset.Bounded := by
  constructor <;> decide

theorem test_reset_is_consistent : State.reset.Consistent := by
  constructor <;> simp [State.reset, State.frameRunning, Timer.reset, Control.reset, Writer.reset, Service.reset, Port.reset,
    Port.live, Port.loadReadAtPort, Health.reset, Readback.reset]

theorem test_reset_banks_are_sound : State.reset.BanksSound := by
  constructor <;> simp [State.reset, Control.reset, Store.reset, Bank.free, Store.countBanks, BankState.incoming, Loader.reset,
    Port.reset, Port.live, Port.loadReadAtPort, Service.reset]

theorem test_reset_journal_is_sound : State.reset.JournalSound := by
  constructor <;> simp [State.reset, Control.reset, Writer.reset, Port.reset, Port.writerBusy, Port.waiting, Port.live]
  intro q w h
  cases q <;> simp at h

theorem test_reset_writer_is_served : State.reset.WriterServed := by
  constructor <;> simp [State.WriterReady, State.reset, Writer.reset, Staging.reset, Port.reset, Port.live]

theorem test_reset_queue_is_ordered : State.reset.QueueOrdered ∧ State.reset.queue.TakesRecent ∧ State.reset.PortServed :=
  ⟨List.Pairwise.nil, fun _ h => (nomatch h), fun _ q => by cases q <;> rfl⟩

theorem witness_invariants_and_a_step :
    (∃ s t, s.Bounded ∧ step s = .next t) ∧ (∃ s t, s.Consistent ∧ step s = .next t)
      ∧ (∃ s t, s.Consistent ∧ s.BanksSound ∧ step s = .next t)
      ∧ (∃ s t, s.Consistent ∧ s.JournalSound ∧ s.WriterServed ∧ step s = .next t)
      ∧ (∃ s t, s.PortServed ∧ exec .load s = .next t) :=
  ⟨⟨_, _, test_reset_is_bounded, rfl⟩, ⟨_, _, test_reset_is_consistent, rfl⟩,
    ⟨_, _, test_reset_is_consistent, test_reset_banks_are_sound, rfl⟩,
    ⟨_, _, test_reset_is_consistent, test_reset_journal_is_sound, test_reset_writer_is_served, rfl⟩,
    ⟨_, _, test_reset_queue_is_ordered.2.2, rfl⟩⟩

/-- Two entries of one priority on both sides of the wrap of the take sequence, and one of a lower priority taken between them.
-/
def wrappedQueue : Queue :=
  { Queue.reset with
    nextTake := 2
    entries :=
      [{ pulseEntry 5 .finished with take := 0xFFFFFFFF }, { pulseEntry 3 .finished with take := 1 },
        { pulseEntry 4 .finished with take := 0, request := { pulseRequest with priority := 7 } }] }

theorem witness_queue_order :
    let s := { inFrame .running .none 100 .service with queue := wrappedQueue }
    s.QueueOrdered ∧ s.queue.TakesRecent ∧ ∃ t, step s = .next t := by
  refine ⟨?_, ?_, _, rfl⟩
  · unfold State.QueueOrdered Entry.Precedes; decide
  · unfold Queue.TakesRecent; decide

theorem test_post_list_is_in_take_order : wrappedQueue.finishedByTake = [5, 4, 3] := by decide

/-! ## Hypotheses that can be met: commands -/

theorem witness_unknown_codes :
    (Instr.unknownCommandCode 0).wellFormed = true ∧ (Instr.unknownCommandCode 7).wellFormed = true
      ∧ (Instr.unknownCommandCode 255).wellFormed = true := by decide

theorem witness_a_pending_command : (inFrame .running .stop 0 .none).control.pending ≠ .none := by decide

theorem witness_states_that_refuse :
    (inEngine .armed .none).control.pending = .none ∧ (inEngine .armed .none).control.engine ≠ .idle
      ∧ (inEngine .idle .none).control.engine ≠ .armed ∧ (inEngine .idle .none).control.engine ≠ .running
      ∧ (inEngine .idle .none).control.engine ≠ .held ∧ (inEngine .idle .none).control.engine ≠ .syncWait
      ∧ (inEngine .running .none).control.engine ≠ .halted := by decide

/-- RESUME at the boundary: the score one above Q is refused, the score Q is taken. -/
theorem witness_resume_boundary :
    (∃ s : State, s.control.engine = .held ∧ s.control.pending = .none ∧ s.control.setup.resume < s.health.score)
      ∧ (∃ s : State, s.control.engine = .held ∧ s.control.pending = .none ∧ s.health.score ≤ s.control.setup.resume
          ∧ s.health.score = s.control.setup.resume) :=
  ⟨⟨{ inEngine .held .none with health := { Health.reset with score := 1 } }, rfl, rfl, by decide⟩,
    ⟨inEngine .held .none, rfl, rfl, by decide, rfl⟩⟩

theorem witness_load_taken : (inEngine .idle .none).control.engine = .idle ∧ (inEngine .idle .none).control.pending = .none :=
  ⟨rfl, rfl⟩

/-- LOAD taken while a discarded transfer of an earlier session still ends. -/
theorem witness_load_taken_with_a_discarded_transfer :
    (carrying (inEngine .idle .none) .journalWrite 32 true).control.engine = .idle
      ∧ (carrying (inEngine .idle .none) .journalWrite 32 true).port.outstanding.isSome = true := ⟨rfl, rfl⟩

theorem witness_start_internal :
    let s := inEngine .armed .none
    s.control.engine = .armed ∧ s.control.pending = .none ∧ s.control.setup.mode = .internal := ⟨rfl, rfl, rfl⟩

theorem witness_start_external :
    let s := working (external (inEngine .armed .none)) .closingWait
    s.control.engine = .armed ∧ s.control.pending = .none ∧ s.control.setup.mode = .external
      ∧ s.service.activity = .closingWait := ⟨rfl, rfl, rfl, rfl⟩

/-- A status write whose first write still waits, one whose second write waits, and one at the port. -/
theorem witness_start_over_a_closing_write :
    let w : Waiting := { kind := .statusFirst, address := 160, length := 32 }
    let s := { working (inEngine .armed .none) .statusWrite with port := { Port.reset with service := some w } }
    let u := { working (inEngine .armed .none) .statusWrite with
      port := { Port.reset with service := some { w with kind := .statusSecond } } }
    let z := carrying (working (inEngine .armed .none) .statusWrite) .statusFirst 32 false
    (s.service.activity = .statusWrite ∧ s.port.service = some w ∧ w.kind = .statusFirst)
      ∧ (u.service.activity = .statusWrite ∧ ∀ v, u.port.service = some v → v.kind ≠ .statusFirst)
      ∧ (z.service.activity = .statusWrite ∧ z.port.service = none ∧ z.port.outstanding ≠ none) := by
  refine ⟨⟨rfl, rfl, rfl⟩, ⟨rfl, ?_⟩, ⟨rfl, rfl, by decide⟩⟩
  intro v h
  cases h
  decide

/-- STOP in SYNC_WAIT behind a tail and behind a status write that START let go on. -/
theorem witness_stop_behind_a_tail :
    (working (inEngine .syncWait .none) .tail).service.activity = .tail
      ∧ (working (inEngine .syncWait .none) .statusWrite).service.activity = .statusWrite
      ∧ (working (inEngine .syncWait .none) .tail).control.engine = .syncWait := ⟨rfl, rfl, rfl⟩

theorem witness_stop_taken :
    (∃ s : State, (s.control.engine = .running ∨ s.control.engine = .held) ∧ s.control.pending = .none)
      ∧ (∃ s : State, s.control.engine = .syncWait ∧ s.control.pending = .none) :=
  ⟨⟨inFrame .held .none 0 .none, .inr rfl, rfl⟩, ⟨inEngine .syncWait .none, rfl, rfl⟩⟩

theorem witness_halt_outside_halted : (inEngine .loading .load).control.engine ≠ .halted := by decide

/-- HALT in HALTED empties the Spot Queue that a HALT verdict kept (R107). -/
theorem test_halt_in_halted_empties_the_queue :
    nextHas (exec .halt { inEngine .halted .none with queue := wrappedQueue }) (fun t =>
      t.queue.entries.isEmpty && t.queue.nextTake == 2) = true := by
  decide +kernel

/-- A SENSE line whose window captures its rising edge while staging holds 32 records. -/
def capturingWhenFull : State :=
  { inFrame .running .none 10 (.static 0) with
    staging := Staging.reset.offerAll false (List.replicate 32 (.mark 1 2)) (0, 0)
    queue := { Queue.reset with entries := [pulseEntry 3 .executing, pulseEntry 4 .waiting] }
    cells := updateCell State.reset.cells 0 fun _ =>
      { senseCell with window := some { someWindow with left := 1, made := 1 }, prevSample := some false } }

/-- R34: the capture is counted as lost, unless HALT follows at the same tick. -/
theorem test_halt_uncounts_the_captures_of_its_tick :
    nextHas (exec (.lineEdge 1) capturingWhenFull) (fun t => t.staging.lost == 1
      && nextHas (exec .halt t) (fun u => u.staging == .reset)) = true := by
  decide +kernel

/-- R29: the window closes at its last capture, and its entry has its captures made. -/
theorem test_a_last_capture_reports :
    nextHas (exec (.lineEdge 1) capturingWhenFull) (fun t => (t.cells.get 0).window.isNone
      && t.queue.entries.map (fun e => e.result.captures) == [2, 0]) = true := by
  decide +kernel

theorem witness_last_capture :
    let s := capturingWhenFull
    let w := { someWindow with left := 1, made := 1 }
    (s.cells.get 0).window = some w ∧ w.source = .spot 3 9 ∧ w.left ≤ 1
      ∧ ((s.cells.get 0).captures s.now ((s.pin 0).level true)).isSome = true
      ∧ ∀ k : Line, k ≠ 0 → (s.cells.get k).window = none := by
  decide +kernel

theorem witness_halt_in_halted : (inEngine .halted .none).control.engine = .halted := rfl

theorem witness_clear_taken :
    let s := inEngine .halted .none
    (s.control.engine = .armed ∨ s.control.engine = .halted) ∧ s.control.pending = .none := ⟨.inr rfl, rfl⟩

theorem witness_register_port_words :
    (inEngine .idle .none).control.engine = .idle ∧ (inEngine .armed .none).control.engine ≠ .idle
      ∧ (Instr.ignoredRegisterWrite 0 4 1).wellFormed = true ∧ (Instr.ignoredRegisterWrite 16 4 1).wellFormed = true
      ∧ (Instr.ignoredRegisterWrite 20 4 1).wellFormed = true ∧ (Instr.ignoredRegisterWrite 28 2 1).wellFormed = true
      ∧ (inEngine .idle .none).health.score ≤ 255 := by
  decide

/-- A readback with a plan reason, in a state that is consistent; and the largest score. -/
theorem witness_a_plan_reason :
    let r : Readback := { last := 1, outcome := .failed, reason := .planRejected, planReason := .overlap }
    let s := { State.reset with control := { Control.reset with readback := r } }
    s.Consistent ∧ s.control.readback.planReason.code = 10 ∧ State.reset.control.readback.reason ≠ .planRejected
      ∧ ({ Health.reset with score := 255 } : Health).score ≤ 255 := by
  refine ⟨?_, rfl, by decide, by decide⟩
  constructor <;> simp [State.reset, State.frameRunning, Timer.reset, Control.reset, Writer.reset, Service.reset, Port.reset,
    Port.live, Port.loadReadAtPort, Health.reset, PlanDetail.code]

/-- A read past the port, at an odd offset, and of less than a word. -/
theorem test_reads_that_return_zero :
    State.reset.readRegister 32 4 = 0 ∧ State.reset.readRegister 2 4 = 0 ∧ State.reset.readRegister 0 1 = 0 := by decide

/-- A status write that waits at a free port, in a pass and after one. -/
theorem witness_status_write_waits :
    let w : Waiting := { kind := .statusFirst, address := 160, length := 32 }
    let s := fun a => { working (inFrame .running .none 100 .service) a with port := { Port.reset with service := some w } }
    ((s .pass).port.outstanding = none ∧ (s .pass).port.service = some w ∧ w.kind = .statusFirst
        ∧ (s .pass).service.activity = .pass) ∧ (s .statusWrite).service.activity = .statusWrite :=
  ⟨⟨rfl, rfl, rfl, rfl⟩, rfl⟩

/-- A record of each kind. -/
theorem test_record_layouts :
    let r := fun b => recordBytes { body := b, frame := 0x04030201, time := 7, lostBefore := 0x0605 }
    (r (.state .held .health)).take 16 = [4, 0, 5, 6, 1, 2, 3, 4, 7, 0, 0, 0, 5, 1, 0, 0]
      ∧ ((r (.mark 0x11223344 5)).drop 16).take 8 = [5, 0, 0, 0, 0x44, 0x33, 0x22, 0x11]
      ∧ ((r (.planSwitch 8 7)).drop 16).take 8 = [8, 0, 0, 0, 7, 0, 0, 0]
      ∧ ((r (.capture 3 .fall (.static 2 9))).drop 12).take 6 = [3, 1, 0, 0, 2, 9]
      ∧ ((r (.capture 3 .rise (.spot 4 1))).drop 12).take 12 = [3, 0, 1, 0, 4, 0, 0, 0, 1, 0, 0, 0] := by
  decide

/-! ## Hypotheses that can be met: SYNC_IN and the lines -/

theorem witness_first_edge :
    let s := external (inEngine .syncWait .none)
    s.control.engine = .syncWait ∧ s.control.setup.mode = .external
      ∧ activeEdge s.control.setup s.timer.syncSample true = true := by decide

/-- The last tick at which an edge is early, frame time 0, and a second early edge. -/
theorem witness_early_edges :
    let s := external (inFrame .running .none 2994 .service)
    let z := external (inFrame .running .none 0 (.static 0))
    (s.control.setup.mode = .external ∧ s.control.engine ≠ .syncWait ∧ s.timer.frameTime = some 2994
        ∧ 2994 + s.control.setup.tolerance < s.timer.geometry.frameLength
        ∧ activeEdge s.control.setup s.timer.syncSample true = true ∧ s.timer.earlySeen = false)
      ∧ (z.control.setup.mode = .external ∧ z.control.engine ≠ .syncWait ∧ z.timer.frameTime = some 0
        ∧ 0 + z.control.setup.tolerance < z.timer.geometry.frameLength
        ∧ activeEdge z.control.setup z.timer.syncSample true = true)
      ∧ ({ s with timer := { s.timer with earlySeen := true } } : State).timer.earlySeen = true := by decide

theorem witness_levels_that_are_only_sampled :
    activeEdge (inEngine .armed .none).control.setup none true = false
      ∧ (inEngine .armed .none).control.setup.mode = .internal
      ∧ (external (inEngine .armed .none)).control.engine ≠ .syncWait
      ∧ (external (inEngine .armed .none)).timer.frameTime = none := by decide

/-- The last tick of a window, at which an edge matches, and its close tick, at which none does. -/
theorem witness_window_edges :
    let c := { senseCell with window := some someWindow, prevSample := some false }
    c.window = some someWindow ∧ c.settings.direction = .sense
      ∧ (49 < someWindow.closeTick ∧ edgeBetween c.prevSample true = some .rise ∧ someWindow.edge = .both)
      ∧ ¬ 50 < someWindow.closeTick := by decide

theorem test_window_boundary :
    let c := { senseCell with window := some someWindow, prevSample := some false }
    (c.captures 49 true).isSome = true ∧ c.captures 50 true = none := by decide

/-! ## Hypotheses that can be met: frame ends -/

theorem test_frame_ends_internal : (inFrame .running .none 3000 .service).FrameEndsBy .internalFrameEnd false :=
  .inl ⟨rfl, rfl, rfl, rfl⟩

theorem test_frame_ends_missing : (external (inFrame .running .none 3005 .service)).FrameEndsBy .syncMissing true :=
  .inr (.inl ⟨rfl, rfl, rfl, rfl⟩)

/-- An edge accepted at the first and at the last tick of the acceptance window. -/
theorem test_frame_ends_edge :
    (external (inFrame .held .none 2995 .service)).FrameEndsBy (.syncInEdge true) false
      ∧ (external (inFrame .held .none 3005 .service)).FrameEndsBy (.syncInEdge true) false :=
  ⟨.inr (.inr ⟨true, 2995, rfl, rfl, rfl, by decide, by decide, rfl, by decide, by decide, by decide⟩),
    .inr (.inr ⟨true, 3005, rfl, rfl, rfl, by decide, by decide, rfl, by decide, by decide, by decide⟩)⟩

/-- A setup with hold threshold 4, halt threshold 8, and a weight of 4 for a missing edge. -/
def strict (s : State) : State := withSetup s fun u => { u with hold := 4, halt := 8, syncWeight := 4 }

theorem witness_next_frames :
    ((strict (inFrame .running .none 3000 .service)).endingSettlement false).engine = .running
      ∧ ((strict (external (inFrame .running .none 3005 .service))).endingSettlement true).engine = .held := by
  decide

theorem test_strict_frames_end :
    (strict (inFrame .running .none 3000 .service)).FrameEndsBy .internalFrameEnd false
      ∧ (strict (external (inFrame .running .none 3005 .service))).FrameEndsBy .syncMissing true :=
  ⟨.inl ⟨rfl, rfl, rfl, rfl⟩, .inr (.inl ⟨rfl, rfl, rfl, rfl⟩)⟩

theorem witness_stop_completes :
    let s := strict (inFrame .held .stop 3000 .service)
    s.FrameEndsBy .internalFrameEnd false ∧ (s.endingSettlement false).engine = .armed
      ∧ (s.control.engine = .running ∨ s.control.engine = .held) :=
  ⟨.inl ⟨rfl, rfl, rfl, rfl⟩, by decide, .inr rfl⟩

/-- The score reaches the halt threshold exactly, with a RESUME pending and with nothing pending. -/
theorem witness_halt_verdict :
    let s := { strict (external (inFrame .held .resume 3005 .service)) with health := { Health.reset with score := 4 } }
    let u := { strict (external (inFrame .running .none 3005 .service)) with health := { Health.reset with score := 4 } }
    (s.FrameEndsBy .syncMissing true ∧ (s.endingSettlement true).engine = .halted ∧ s.control.engine = .held
        ∧ s.control.pending = .resume ∧ s.endingScore true = 8)
      ∧ (u.FrameEndsBy .syncMissing true ∧ (u.endingSettlement true).engine = .halted ∧ u.control.engine = .running
        ∧ u.control.pending = .none) :=
  ⟨⟨.inr (.inl ⟨rfl, rfl, rfl, rfl⟩), by decide, rfl, rfl, by decide⟩,
    ⟨.inr (.inl ⟨rfl, rfl, rfl, rfl⟩), by decide, rfl, rfl⟩⟩

/-- A frame end that cuts a pass: with its read of step A at the port, with a state write of the unit in hand waiting, and with
nothing in hand; a watermark that is just reached and one above. -/
theorem witness_cut_passes :
    let s := working (inFrame .running .stop 3000 .service) .pass
    let z := { s with
      service := { s.service with unit := .post 2 }
      port := { Port.reset with service := some { kind := .stateWrite 2 .done, address := 288, length := 4 } } }
    let w : Writer := { Writer.reset with written := 3, watermark := 3 }
    (carrying s .stepARead 32 false).CutInHand ∧ z.CutInHand ∧ ¬ s.CutInHand
      ∧ ¬ (carrying s .stepARead 32 true).CutInHand
      ∧ (w.watermark ≠ 0 ∧ w.watermark.toNat ≤ (w.written - w.released).toNat)
      ∧ ¬ ({ w with watermark := 4 } : Writer).watermark.toNat ≤ (w.written - w.released).toNat := by
  refine ⟨.inl ⟨_, rfl, rfl, rfl⟩, .inr ⟨rfl, by decide⟩, ?_, ?_, by decide, by decide⟩
  · rintro (⟨x, h, _⟩ | ⟨h, _⟩) <;> cases h
  · rintro (⟨x, h, _, d⟩ | ⟨h, _⟩)
    · cases h; cases d
    · cases h

/-- A pass with its read at the port goes on as a tail; one with nothing in hand does not. -/
theorem test_a_cut_pass_leaves_a_tail :
    let s := working (inFrame .running .none 3000 .service) .pass
    nextHas (exec .internalFrameEnd (carrying s .stepARead 32 false)) (fun t => t.service.activity == .tail) = true
      ∧ nextHas (exec .internalFrameEnd s) (fun t => t.service.activity == .none && t.health.overruns == 1) = true := by
  decide +kernel

/-- A frame end that switches: bank 1 was PENDING before this tick, and its plan makes line 1 SENSE. -/
def switching : State :=
  { inFrame .running .none 3000 .service with
    store := { bank0 := { state := .current, generation := 6, content := [] },
               bank1 := { state := .pending, generation := 7, content := planBytes }, pendingNow := false }
    queue := { Queue.reset with
      entries := [pulseEntry 0 .waiting, { pulseEntry 1 .waiting with request := { pulseRequest with line := 1 } }] } }

theorem witness_a_switch :
    switching.FrameEndsBy .internalFrameEnd false ∧ switching.store.switches = true
      ∧ (inFrame .running .none 3000 .service).store.switches = false
      ∧ ({ switching.store with pendingNow := true } : Store).switches = false :=
  ⟨.inl ⟨rfl, rfl, rfl, rfl⟩, rfl, rfl, rfl⟩

/-- R52, R105: the roles are exchanged, and the entry on line 1 is rejected by the new plan. -/
theorem test_a_switch :
    nextHas (exec .internalFrameEnd switching) (fun t =>
      t.store.bank0 == .free && t.store.bank1 == { state := .current, generation := 7, content := planBytes }
        && t.queue.entries.map (fun e => (e.ending, e.result.afterSwitch)) == [(.none, false), (.rejected, true)]) = true := by
  decide +kernel

/-- R151, R153: the two sides of each test. -/
theorem witness_score_and_verdict :
    let u := (strict State.reset).control.setup
    (u.halt ≠ 0 ∧ u.halt ≤ 8) ∧ ¬ (u.halt ≠ 0 ∧ u.halt ≤ 7) ∧ (u.hold ≤ 4 ∧ EngineState.running = .running)
      ∧ ¬ u.hold ≤ 3 ∧ 0 ≤ u.resume ∧ ({ u with autoResume := true } : Setup).autoResume = true
      ∧ ({ FaultSet.empty with sync := true } : FaultSet) ≠ { overrun := false, sync := false, bus := false, loss := false } := by
  decide

/-! ## Hypotheses that can be met: inside a frame -/

theorem witness_events_not_due :
    let s := inEngine .armed .none
    s.timer.frameTime = none ∧ s.queue.action = none ∧ (s.cells.get 0).window = none ∧ s.service.activity ≠ .closingWait
      ∧ s.port.outstanding = none := by decide

/-- One tick short of each instant of a frame: its end, tick 8 of SYNC_OUT, the acceptance window, the second slot, the dynamic
phase, a minislot, the service window. -/
theorem witness_instants_not_reached :
    let s := fun t => external (inFrame .running .none t (.static 0))
    let g := geometry
    (s 2999).timer.frameTime ≠ some g.frameLength
      ∧ (s 3004).timer.frameTime ≠ some (g.frameLength + (s 3004).control.setup.tolerance)
      ∧ ((s 7).timer.frameTime = some 7 ∧ 7 < 8)
      ∧ ((s 2994).timer.frameTime = some 2994 ∧ 2994 + (s 2994).control.setup.tolerance < g.frameLength)
      ∧ (∀ k, k < g.slots → (s 15).timer.frameTime ≠ some (k * g.slotLength))
      ∧ (s 31).timer.frameTime ≠ some (g.slots * g.slotLength)
      ∧ (∀ m, m < g.minislots → (s 39).timer.frameTime ≠ some (g.slots * g.slotLength + m * g.minislotLength))
      ∧ (s 55).timer.frameTime ≠ some (g.slots * g.slotLength + g.minislots * g.minislotLength) := by decide

/-- One tick short of the end of an action, a window and a spot action; a tick inside the duty of a burst; a record staged
while the journal has room. -/
theorem witness_ends_not_reached :
    let r : RunningAction := { start := 40, stop := 50, op := .burst 5 2 2 }
    (49 < r.stop ∧ 49 < someWindow.closeTick ∧ 49 < ({ board := 0, start := 40, stop := 50 } : SpotAction).stop)
      ∧ ((46 - r.start) % 5 ≠ 0 ∧ (46 - r.start) % 5 ≠ min 2 5)
      ∧ ((Staging.reset.offer false (.mark 1 2) (0, 0)).records ≠ []
          ∧ ({ Writer.reset with size := 16, written := 15 } : Writer).unreleased
              ≠ ({ Writer.reset with size := 16, written := 15 } : Writer).size.toNat) := by decide

/-- A transfer one tick before its expiry. -/
theorem witness_timeout_not_due :
    ∀ x, ({ carrying (inEngine .armed .none) .journalWrite 32 false with now := 99 } : State).port.outstanding = some x →
      ({ carrying (inEngine .armed .none) .journalWrite 32 false with now := 99 } : State).now < x.expiryTick := by
  intro x h
  cases h
  decide

/-- Frame time L − T in EARLY_ZONE, tick 8 of a pulse, the first tick of the first and of the last slot. -/
theorem witness_timer_instants :
    (∃ s : State, s.timer.frameTime = some 2995 ∧ s.timer.acceptance = .earlyZone
        ∧ s.timer.geometry.frameLength ≤ 2995 + s.control.setup.tolerance)
      ∧ (∃ s : State, s.timer.frameTime = some 8 ∧ s.timer.syncOut = true)
      ∧ (∃ s : State, s.timer.frameTime = some 0 ∧ 0 < s.timer.geometry.slots ∧ 0 < s.timer.geometry.slotLength
          ∧ 0 = 0 * s.timer.geometry.slotLength)
      ∧ (∃ s : State, s.timer.frameTime = some 16 ∧ 1 < s.timer.geometry.slots ∧ 16 = 1 * s.timer.geometry.slotLength) := by
  refine ⟨⟨?_, ?_⟩, ⟨?_, ?_⟩, ⟨inFrame .running .none 0 (.static 0), rfl, by decide, by decide, by decide⟩,
    ⟨inFrame .running .none 16 (.static 0), rfl, by decide, by decide⟩⟩
  · exact
      let s := external (inFrame .running .none 2995 .service)
      { s with timer := { s.timer with acceptance := .earlyZone } }
  · exact ⟨rfl, rfl, by decide⟩
  · exact
      let s := inFrame .running .none 8 (.static 0)
      { s with timer := { s.timer with syncOut := true } }
  · exact ⟨rfl, rfl⟩

theorem witness_static_action :
    let s := { inFrame .held .none 3 (.static 0) with
      store := planStore, static := { active := true, next := 0, frame := 0 } }
    let a := planAction planBytes 0
    nextAction s = some a ∧ a.op = some (.level .set) ∧ a.line.toNat < 16
      ∧ s.timer.frameTime = some (a.slot * s.timer.geometry.slotLength + a.offset) := by
  decide +kernel

theorem witness_line_directions :
    driveCell.settings.direction = .drive ∧ senseCell.settings.direction ≠ .drive ∧ senseCell.settings.direction = .sense
      ∧ driveCell.settings.direction ≠ .sense := by decide

/-- A BURST of period 4, duty 1, count 2, at its first tick, its duty end, its second period, and its end. -/
theorem test_burst_levels :
    let b := driveCell.take 10 (.burst 4 1 2) (.static 0 0)
    b.logical = true ∧ (b.burstChange 11).logical = false ∧ (b.burstChange 14).logical = true
      ∧ (b.burstChange 15).logical = false ∧ (b.endDue 18).running = none := by decide

/-- A duty of the whole period: the level does not change inside the burst. -/
theorem test_burst_full_duty :
    let b := driveCell.take 10 (.burst 4 9 2) (.static 0 0)
    b.logical = true ∧ (b.burstChange 13).logical = true ∧ (b.burstChange 14).logical = true := by decide

/-- A period start and a duty end inside the last period meet the hypotheses on them. -/
theorem witness_burst_instants : 0 < 4 ∧ 0 < 2 ∧ 1 < 2 ∧ 0 < 4 ∧ 1 < 4 ∧ ((1 : Nat) = 0 ∨ (1 : Nat) = 1) := by decide

theorem witness_pulse_before_its_end : (16 : Nat) < 7 + 10 := by decide

/-- An action that ends at this tick, and a burst at the end of a duty and at the start of a period. -/
theorem witness_line_changes :
    let r : RunningAction := { start := 40, stop := 50, op := .burst 5 2 2 }
    r.stop ≤ 50 ∧ (42 < r.stop ∧ (42 - r.start) % 5 = min 2 5) ∧ (45 < r.stop ∧ (45 - r.start) % 5 = 0) := by decide

/-- A window whose close tick is this tick, from a spot action and from a static one. -/
theorem witness_window_close :
    let s := { inFrame .running .none 60 .service with
      now := 50, cells := updateCell State.reset.cells 2 fun c => { c with window := some someWindow } }
    let z := { inFrame .running .none 60 .service with
      now := 50, cells := updateCell State.reset.cells 2 fun c =>
        { c with window := some { someWindow with source := .static 0 0 } } }
    ((s.cells.get 2).window = some someWindow ∧ someWindow.closeTick ≤ s.now ∧ someWindow.source = .spot 3 9)
      ∧ ((z.cells.get 2).window = some { someWindow with source := .static 0 0 }
          ∧ ∀ board tag, (WindowSource.static 0 0) ≠ .spot board tag) := by
  refine ⟨⟨?_, by decide, rfl⟩, ?_, ?_⟩
  · simp
  · simp
  · simp

/-! ## Hypotheses that can be met: the dynamic phase -/

theorem witness_dynamic_phase_start :
    let s := inFrame .running .none 32 (.static 1)
    s.timer.phase.isStatic = true ∧ 0 < s.timer.geometry.minislots
      ∧ s.timer.frameTime = some (s.timer.geometry.slots * s.timer.geometry.slotLength) := by decide

/-- Deadline 3 from frame 5: the entry is overdue in frame 9 and not in frame 8. -/
theorem witness_overdue_boundary :
    let e := pulseEntry 0 .waiting
    (e.status = .waiting ∧ ((9 : Word) - e.earliest).toNat < 2147483648 ∧ e.request.deadline ≠ 0
        ∧ e.request.deadline.toNat < ((9 : Word) - e.earliest).toNat)
      ∧ ¬ e.request.deadline.toNat < ((8 : Word) - e.earliest).toNat := by decide

/-- Two waiting entries of two minislots each: the first is placed at 0, the second does not fit. -/
theorem test_walk_places_the_first :
    (placeWalk geometry 5 false 0 [pulseEntry 0 .waiting, pulseEntry 1 .waiting]).2.1 = [{ board := 0, minislot := 0 }] := by
  decide +kernel

/-- An entry of two minislots fits at the last place that holds it and not one further on; in HELD an output entry is passed
over; an entry is due in its earliest frame and not in the frame before. -/
theorem witness_walk_boundaries :
    let e := pulseEntry 0 .waiting
    e.request.minislots geometry = 2
      ∧ (1 ≤ geometry.latestStart ∧ 1 + e.request.minislots geometry ≤ geometry.minislots)
      ∧ ¬ 2 + e.request.minislots geometry ≤ geometry.minislots
      ∧ (kindIsOutput e.request.kind = true ∧ e.status = .waiting)
      ∧ ((5 : Word) - e.earliest).toNat < 2147483648 ∧ ¬ ((4 : Word) - e.earliest).toNat < 2147483648 := by
  decide +kernel

/-- An entry placed by the walk was not in the list before; with HELD an output entry is passed over. -/
theorem witness_placed_entries :
    (let r := placeWalk geometry 5 false 0 [pulseEntry 0 .waiting]
     (pulseEntry 0 .waiting).place 0 ∈ r.1 ∧ ((pulseEntry 0 .waiting).place 0).status = .placed
       ∧ (pulseEntry 0 .waiting).place 0 ∉ [pulseEntry 0 .waiting]
       ∧ ((pulseEntry 0 .waiting).place 0).startMinislot = some 0)
      ∧ (∀ e ∈ [pulseEntry 0 .waiting], e.status ≠ .placed)
      ∧ (let mark := { pulseEntry 0 .waiting with request := { pulseRequest with kind := 5 } }
         mark.place 0 ∈ (placeWalk geometry 5 true 0 [mark]).1 ∧ (mark.place 0).status = .placed) := by
  decide +kernel

/-- Two placed entries, the second after the first. -/
theorem witness_two_placed_entries :
    let a := { pulseEntry 0 .waiting with request := { pulseRequest with p1 := 8 } }
    let b := pulseEntry 1 .waiting
    let r := placeWalk geometry 5 false 0 [a, b]
    a.place 0 ∈ r.1 ∧ b.place 1 ∈ r.1 ∧ a.place 0 ∉ [a, b] ∧ b.place 1 ∉ [a, b] ∧ (0 : Nat) < 1
      ∧ (b.place 1).startMinislot = some 1 := by
  decide +kernel

/-- Minislot 2, the last one, with no entry placed, with a PULSE placed, and with a MARK placed. -/
theorem witness_minislot_start :
    let s := fun (q : Queue) => { inFrame .running .none 48 (.dynamic 1) with queue := q }
    let e := (pulseEntry 0 .waiting).place 2
    let k := { e with request := { pulseRequest with kind := 5 } }
    let q : Queue := { Queue.reset with entries := [e], runList := [{ board := 0, minislot := 2 }] }
    let z : Queue := { Queue.reset with entries := [k], runList := [{ board := 0, minislot := 2 }] }
    (∀ q, (s q).timer.phase.isDynamic = true ∧ 2 < (s q).timer.geometry.minislots
        ∧ 0 < (s q).timer.geometry.minislotLength
        ∧ (s q).timer.frameTime = some ((s q).timer.geometry.slots * (s q).timer.geometry.slotLength
            + 2 * (s q).timer.geometry.minislotLength))
      ∧ ((s .reset).queue.action = none ∧ (s .reset).queue.startingAt 2 = none)
      ∧ ((s q).queue.action = none ∧ (s q).queue.startingAt 2 = some e ∧ e.request.op = some (.pulse 10))
      ∧ ((s z).queue.action = none ∧ (s z).queue.startingAt 2 = some k ∧ k.request.op = some .mark) := by
  have late : 2 < geometry.minislots ∧ 0 < geometry.minislotLength := by decide
  exact ⟨fun q => ⟨rfl, late.1, late.2, rfl⟩, ⟨rfl, rfl⟩, ⟨rfl, by decide +kernel, by decide +kernel⟩,
    ⟨rfl, by decide +kernel, by decide +kernel⟩⟩

/-- Minislot 2 starts at the end tick of the action of the entry before it. -/
def minislotAfterAnAction : State :=
  let e := (pulseEntry 1 .waiting).place 2
  { inFrame .running .none 48 (.dynamic 1) with
    now := 50
    queue := { Queue.reset with
      entries := [pulseEntry 0 .executing, e], runList := [{ board := 0, minislot := 0 }, { board := 1, minislot := 2 }]
      action := some { board := 0, start := 34, stop := 50 } } }

theorem witness_minislot_after_an_action :
    let s := minislotAfterAnAction
    let a : SpotAction := { board := 0, start := 34, stop := 50 }
    s.timer.phase.isDynamic = true ∧ 2 < s.timer.geometry.minislots ∧ 0 < s.timer.geometry.minislotLength
      ∧ s.timer.frameTime = some (s.timer.geometry.slots * s.timer.geometry.slotLength + 2 * s.timer.geometry.minislotLength)
      ∧ s.queue.action = some a ∧ a.stop ≤ s.now :=
  ⟨rfl, by decide, by decide, rfl, rfl, by decide⟩

theorem test_minislot_after_an_action :
    nextHas (exec .minislotStart minislotAfterAnAction) (fun t =>
      t.queue.entries.map Entry.status == [.finished, .executing] && t.queue.action.any (fun a => a.board == 1)) = true := by
  decide +kernel

/-- A spot action at its end tick, with its window at the close tick on line 2, and with none. -/
theorem witness_spot_action_end :
    let s := { inFrame .running .none 60 (.dynamic 2) with
      now := 50, queue := { Queue.reset with action := some { board := 3, start := 40, stop := 50 } } }
    (s.queue.action = some { board := 3, start := 40, stop := 50 } ∧ (50 : Nat) ≤ s.now)
      ∧ (∀ l : Line, (s.cells.get l).window = none)
      ∧ (let c := updateCell s.cells 2 fun c => { c with window := some someWindow }
         (c.get 2).window = some someWindow ∧ someWindow.closeTick ≤ s.now ∧ someWindow.source = .spot 3 9
           ∧ ∀ k : Line, k ≠ 2 → (c.get k).window = none) := by
  refine ⟨⟨rfl, by decide⟩, by decide, ?_⟩
  decide +kernel

/-- The window's two captures reach the entry, and the other entry stays. -/
theorem test_spot_action_end_reports :
    nextHas (exec .spotActionEnd
      { inFrame .running .none 60 (.dynamic 2) with
        now := 50
        cells := updateCell State.reset.cells 2 fun c => { c with window := some { someWindow with made := 2 } }
        queue := { Queue.reset with
          entries := [pulseEntry 3 .executing, pulseEntry 4 .waiting]
          action := some { board := 3, start := 40, stop := 50 } } })
      (fun t => t.queue.entries.map (fun e => (e.status, e.result.captures)) == [(.finished, 2), (.waiting, 0)]
        && (t.cells.get 2).window.isNone) = true := by
  decide +kernel

/-- A PULSE on line 1, which the plan makes SENSE; a PULSE of 25 ticks, one tick too long; and one of 24, which stays. -/
theorem witness_revalidation :
    let e := pulseEntry 0 .waiting
    let on1 := { e with request := { pulseRequest with line := 1 } }
    let g := (planHeader planBytes).geometry
    (e.status = .waiting ∧ kindIsOutput on1.request.kind = true
        ∧ (planSettings planBytes (lineOf on1.request.line)).direction ≠ .drive)
      ∧ (planSettings planBytes (lineOf e.request.line)).direction = .drive
      ∧ g.minislots < ({ pulseRequest with p1 := 25 } : Request).minislots g
      ∧ ¬ g.minislots < ({ pulseRequest with p1 := 24 } : Request).minislots g ∧ g.minislots ≠ 0 := by
  decide +kernel

/-! ## Hypotheses that can be met: the pass and the closing write -/

/-- The service window of a frame with a dynamic phase, and of one without. -/
theorem witness_service_window :
    let s := inFrame .running .none 56 (.dynamic 2)
    let z := { s with timer := { s.timer with
      frameTime := some 32, phase := .static 1, geometry := { geometry with minislots := 0 } } }
    (s.timer.phase.isDynamic = true ∧ s.service.activity = .none
        ∧ s.timer.frameTime = some (s.timer.geometry.slots * s.timer.geometry.slotLength
            + s.timer.geometry.minislots * s.timer.geometry.minislotLength))
      ∧ (z.timer.phase.isStatic = true ∧ (working z .tail).service.activity = .tail
        ∧ (working z .statusWrite).service.activity = .statusWrite
        ∧ z.timer.frameTime = some (z.timer.geometry.slots * z.timer.geometry.slotLength
            + z.timer.geometry.minislots * z.timer.geometry.minislotLength)) := by decide

/-- A closing write with empty staging, and one with a full journal. -/
theorem witness_closing_write :
    (∃ s : State, s.service.activity = .closingWait ∧ s.staging.records = [])
      ∧ (∃ s : State, s.service.activity = .closingWait ∧ s.staging.records ≠ []
          ∧ s.writer.unreleased = s.writer.size.toNat) :=
  ⟨⟨working (inEngine .armed .none) .closingWait, rfl, rfl⟩,
    ⟨{ working (inEngine .armed .none) .closingWait with
        staging := Staging.reset.offer false (.mark 1 2) (0, 0)
        writer := { Writer.reset with size := 16, written := 16 } }, rfl, by decide, by decide⟩⟩

/-! ## Hypotheses that can be met: the ends of transfers -/

theorem test_carries (s : State) (k : TransferKind) (n : Nat) : (carrying s k n false).Carries k := ⟨_, rfl, rfl, rfl⟩

/-- A setup of no board entry fails check 1; the worked one passes. -/
theorem witness_setup_read :
    (carrying (inEngine .loading .load) .setupRead 64 false).Carries .setupRead
      ∧ setupFailure 0 (readSetup (bytes 64 []).toList) = some .setupBoard
      ∧ setupFailure 0 (readSetup setupBytes.toList) = none :=
  ⟨test_carries _ _ _, by decide +kernel, by decide +kernel⟩

/-- R161: each check at its boundary: 32 and 33 board entries, a journal that ends where the exchange area begins and one that
shares its last byte, a timeout of 63, X equal to H, an undefined mode. -/
theorem test_setup_checks_at_their_boundaries :
    let b := setupBytes.toList
    let f := fun (x : Addr) l => setupFailure x (readSetup l)
    f 0 (b.set 12 32) = none ∧ f 0 (b.set 12 33) = some .setupBoard
      ∧ f 8704 b = none ∧ f 8640 b = some .setupJournal ∧ f 7936 b = some .setupJournal ∧ f 7872 b = none
      ∧ f 0 (b.set 8 8) = some .setupJournal
      ∧ f 0 (b.set 16 63) = some .setupTimeout ∧ f 0 (b.set 25 1) = some .setupHealth ∧ f 0 (b.set 25 2) = none
      ∧ f 0 (b.set 20 16) = some .setupHealth ∧ f 0 (b.set 13 2) = some .setupSync := by
  decide +kernel

/-- Generation 0; an aligned and a misaligned plan address. -/
theorem witness_load_host_control :
    let s := carrying (inEngine .loading .load) .hostControlRead 32 false
    (s.Carries .hostControlRead ∧ s.loader.readOut = .none ∧ s.control.engine = .loading ∧ s.store.bank0.state ≠ .current)
      ∧ word (bytes 32 []).toList 8 = 0
      ∧ (word (bytes 32 [8, 0, 0, 0, 0, 0, 0, 0, 7]).toList 8 ≠ 0 ∧ (quad (bytes 32 [8, 0, 0, 0, 0, 0, 0, 0, 7]).toList 0).toNat % 8 = 0)
      ∧ (word (bytes 32 [1, 0, 0, 0, 0, 0, 0, 0, 7]).toList 8 ≠ 0
          ∧ (quad (bytes 32 [1, 0, 0, 0, 0, 0, 0, 0, 7]).toList 0).toNat % 8 ≠ 0) :=
  ⟨⟨test_carries _ _ _, rfl, rfl, by decide⟩, by decide +kernel, by decide +kernel, by decide +kernel⟩

/-- A release count equal to W is accepted and one past W is not; in a pass and in a tail with nothing after it. -/
theorem witness_step_a :
    let s := carrying (working (inFrame .running .none 100 .service) .pass) .stepARead 32 false
    let z := carrying (working (inFrame .running .none 1 .none) .tail) .stepARead 32 false
    let w : Writer := { Writer.reset with written := 3 }
    (s.Carries .stepARead ∧ s.service.activity = .pass)
      ∧ (z.Carries .stepARead ∧ z.service.activity = .tail ∧ z.service.closingOwed = false ∧ z.service.owed = false)
      ∧ ((3 : Word) - w.released).toNat ≤ (w.written - w.released).toNat
      ∧ ¬ ((4 : Word) - w.released).toNat ≤ (w.written - w.released).toNat :=
  ⟨⟨test_carries _ _ _, rfl⟩, ⟨test_carries _ _ _, rfl, rfl, rfl⟩, by decide, by decide⟩

/-- R57 to R64: hand-overs to the Plan Loader: a generation that starts a load, one that is CURRENT, one handed while a bank is
PENDING, the load generation, one that overtakes, one refused last; and one handed in ARMED. -/
theorem witness_plan_hand_overs :
    let s := { inFrame .running .none 100 .service with store := planStore }
    let p := { s with store := { planStore with bank1 := { state := .pending, generation := 8, content := [] } } }
    let l := { s with
      store := { planStore with bank1 := { state := .filling, generation := 8, content := [] } }
      loader := { Loader.reset with filling := true, generation := 8, lastRefused := 6 } }
    (s.control.engine = .running ∧ s.Eligible 8 ∧ s.loader.filling = false ∧ s.store.pendingGeneration = none)
      ∧ ¬ s.Eligible 7 ∧ ¬ s.Eligible 0
      ∧ (p.Eligible 9 ∧ p.loader.filling = false ∧ p.store.pendingGeneration ≠ none) ∧ ¬ p.Eligible 8
      ∧ (l.Eligible 8 ∧ l.loader.filling = true ∧ (8 : Word) = l.loader.generation)
      ∧ (l.Eligible 9 ∧ (9 : Word) ≠ l.loader.generation) ∧ ¬ l.Eligible 6
      ∧ ((inEngine .armed .none).control.engine ≠ .running ∧ (inEngine .armed .none).control.engine ≠ .held)
      ∧ ((4096 : Addr).toNat % 8 = 0 ∧ (4097 : Addr).toNat % 8 ≠ 0) := by
  intro s p l
  refine ⟨⟨rfl, ?_, rfl, rfl⟩, ?_, ?_, ⟨?_, rfl, ?_⟩, ?_, ⟨?_, rfl, rfl⟩, ⟨?_, ?_⟩, ?_, ?_, ?_⟩
  all_goals first | decide +kernel | (unfold State.Eligible; decide +kernel)

/-- A tail that ends with a closing write owed, with a pass owed, and with neither. -/
theorem witness_tails_that_end :
    let v : Service := { Service.reset with activity := .tail }
    (v.closingOwed = false ∧ v.owed = false) ∧ ({ v with closingOwed := true } : Service).closingOwed = true
      ∧ (v.closingOwed = false ∧ ({ v with owed := true } : Service).owed = true) := by decide

/-- A load in progress in a run, with its read at the port. -/
def loadingInRun : State :=
  let s := carrying (inFrame .running .none 100 .service) .planRead 32 false
  { s with
    store := { planStore with bank1 := { state := .filling, generation := 8, content := [] } }
    loader := { s.loader with filling := true, generation := 8, address := 4096, readOut := .currentLoad } }

theorem witness_plan_read :
    ∃ x, loadingInRun.port.outstanding = some x ∧ x.kind = .planRead ∧ x.discard = false
      ∧ loadingInRun.loader.readOut = .currentLoad ∧ loadingInRun.loader.filling = true
      ∧ (loadingInRun.control.engine = .running ∨ loadingInRun.control.engine = .held) :=
  ⟨_, rfl, rfl, rfl, rfl, rfl, .inl rfl⟩

/-- R71: the initial load with its read at the port, with a setup of tolerance 5 being loaded. -/
def loadingInLoad : State :=
  let s := carrying (inEngine .loading .load) .planRead 16 false
  { s with
    control := { s.control with stage := .plan, loading := some { Setup.reset with tolerance := 5 } }
    store :=
      { Store.reset with
        bank0 :=
          { state := .filling, generation := 8,
            content := [1, 2, 1, 0, 8, 0, 0, 0, 0xBB, 0x82, 0x77, 0x9F] ++ (planBytes.take 160).drop 12 } }
    loader :=
      { s.loader with
        filling := true, generation := 8, address := 4096, readOut := .currentLoad, position := 160, total := some 176,
        crc := 0xE5289C2C } }

theorem witness_plan_read_of_load :
    ∃ x, loadingInLoad.port.outstanding = some x ∧ x.kind = .planRead ∧ x.discard = false
      ∧ loadingInLoad.loader.readOut = .currentLoad ∧ loadingInLoad.loader.filling = true
      ∧ loadingInLoad.control.engine = .loading ∧ loadingInLoad.control.loading = some { Setup.reset with tolerance := 5 } :=
  ⟨_, rfl, rfl, rfl, rfl, rfl, rfl, rfl⟩

/-- R71, R163, R164: the plan passes, and LOAD's status write is issued; one byte of it changed, and LOAD fails. -/
theorem test_plan_read_of_load :
    nextHas (exec (.planReadDone (bytes 64 (planBytes.drop 160))) loadingInLoad) (fun t =>
        t.store.bank0.state == .current && t.control.stage == .statusWrite && t.loader.status.status == .current
          && !t.loader.posted && t.service.activity == .statusWrite
          && t.port.outstanding.any fun x => x.kind == .statusFirst && x.length == 32) = true
      ∧ nextHas (exec (.planReadDone (bytes 64 (1 :: planBytes.drop 161))) loadingInLoad) (fun t =>
        t.store.bank0 == .free && t.control.engine == .idle
          && t.control.readback == { last := 1, outcome := .failed, reason := .planRejected, planReason := .badCheck }) = true := by
  decide +kernel

/-- R63: a STALE read while a load is in progress, and while none is. -/
theorem witness_stale_reads :
    let z := { loadingInRun with loader := { loadingInRun.loader with readOut := .stale } }
    (z.Carries .planRead ∧ z.loader.readOut = .stale ∧ z.loader.filling = true)
      ∧ ({ z.loader with filling := false } : Loader).filling = false :=
  ⟨⟨⟨_, rfl, rfl, rfl⟩, rfl, rfl⟩, rfl⟩

/-- The three ways a plan read of a run can end: a further read, a plan that is refused, and a plan that is taken. -/
theorem test_plan_read_goes_on :
    nextHas (exec (.planReadDone (bytes 64 ([1, 2, 1, 0, 8] ++ planBytes.drop 5))) loadingInRun) (fun t =>
      t.loader.filling && t.loader.position == 32 && t.port.outstanding.any fun x => x.length == 64 && x.address == 4128) = true := by
  decide +kernel

theorem test_plan_read_is_refused :
    nextHas (exec (.planReadDone (bytes 64 planBytes)) loadingInRun) (fun t =>
      !t.loader.filling && t.loader.status.detail == .badFormat && t.loader.lastRefused == 8) = true := by
  decide +kernel

/-- The last 16 bytes of a plan of generation 8 whose header holds its check word, 9F7782BBh. -/
theorem test_plan_read_ends_pending :
    nextHas (exec (.planReadDone (bytes 64 (planBytes.drop 160)))
      { carrying loadingInRun .planRead 16 false with
        store :=
          { planStore with
            bank1 :=
              { state := .filling, generation := 8,
                content := [1, 2, 1, 0, 8, 0, 0, 0, 0xBB, 0x82, 0x77, 0x9F] ++ (planBytes.take 160).drop 12 } }
        loader := { loadingInRun.loader with position := 160, total := some 176, crc := 0xE5289C2C } })
      (fun t => !t.loader.filling && t.loader.status.status == .pending && t.store.bank1.state == .pending) = true := by
  decide +kernel

/-- R59: one byte short of the total length and at it; a header that is refused for its generation. -/
theorem witness_plan_read_clauses :
    let h := planBytes.take 32
    loadingInRun.loader.total = none
      ∧ ((byteAt h 0).toNat = 1 ∧ (word h 24).toNat = 160 + 16 * (half h 2).toNat ∧ word h 4 ≠ loadingInRun.loader.generation)
      ∧ (160 + 15 < 176 ∧ 176 ≤ 160 + 16)
      ∧ (planFailure planBytes 0 0 = some .badCheck ∧ planFailure planBytes 0xFFFFFFFF 0 = none) := by
  decide +kernel

/-- R44 to R49: the worked plan with one byte changed, each the first check to fail: a slot length of 15, a repeat of 3, slot 2
of 2, an offset that passes the end of the slot, a WINDOW on the DRIVE line. -/
theorem test_plan_checks_at_their_boundaries :
    let f := fun l => planFailure l 0xFFFFFFFF 0
    f (planBytes.set 18 15) = some .badGeometry ∧ f (planBytes.set 165 3) = some .badFilter
      ∧ f (planBytes.set 160 2) = some .badParam ∧ f (planBytes.set 168 15) = none
      ∧ f (planBytes.set 168 16) = some .overrunsSlot
      ∧ f (((planBytes.set 162 4).set 164 8).set 170 1) = some .lineMode := by
  decide +kernel

/-- R46, R49: two actions in order that meet without sharing a tick, two that share one, and two out of order. -/
theorem test_plans_of_two_actions :
    let plan := fun (a b : Byte) =>
      (planBytes.take 160).set 2 2 ++ [0, 0, 2, 0, 0, 1, 0, 0, a, 0, 3, 0, 0, 0, 0, 0, 0, 0, 1, 0, 0, 1, 0, 0, b, 0, 0, 0, 0, 0, 0, 0]
    let f := fun l => planFailure l 0xFFFFFFFF 0
    f (plan 2 5) = none ∧ f (plan 2 4) = some .overlap ∧ f (plan 5 2) = some .badOrder := by
  decide +kernel

/-- The scan at an entry, with its read at the port: an entry held as WAITING, and one held as FINISHED. -/
def scanning (entries : List Entry) : State :=
  { carrying (working (inFrame .running .none 100 .service) .pass) (.boardRead 2) 48 false with
    store := planStore
    queue := { Queue.reset with entries := entries }
    service := { Service.reset with activity := .pass, step := .c, boardPos := 2, unit := .scan 2 } }

/-- R77 to R87: the values a state word is read as, the indexes that are held, a full queue; and the scan at its last index. -/
theorem witness_board_reads :
    ((scanning []).Carries (.boardRead 2) ∧ (scanning []).service.activity = .pass ∧ (scanning []).queue.find 2 = none)
      ∧ ((scanning [pulseEntry 2 .waiting]).queue.find 2 = some (pulseEntry 2 .waiting)
          ∧ (pulseEntry 2 .waiting).status = .waiting ∧ (pulseEntry 2 .finished).status = .finished)
      ∧ ((scanning ((List.range 16).map fun k => pulseEntry (k + 3) .waiting)).queue.find 2 = none
          ∧ 16 ≤ (scanning ((List.range 16).map fun k => pulseEntry (k + 3) .waiting)).queue.entries.length)
      ∧ (let code := fun b => (word (bytes 48 [b]).toList 0).toNat
         code 0 = 0 ∧ code 2 = 2 ∧ (4 ≤ code 4 ∧ code 8 ≤ 8) ∧ 9 ≤ code 9 ∧ code 1 = 1 ∧ code 3 = 3) :=
  ⟨⟨⟨_, rfl, rfl, rfl⟩, rfl, rfl⟩, by decide, by decide, by decide +kernel⟩

/-- A junk word sets JUNK, and the scan ends with step D; a cancel of a WAITING entry is answered. -/
theorem test_board_reads :
    nextHas (exec (.boardEntryReadDone (bytes 48 [9])) (scanning [])) (fun t =>
        t.service.junk && t.service.step == .d && t.service.boardPos == 3) = true
      ∧ nextHas (exec (.boardEntryReadDone (bytes 48 [3])) (scanning [pulseEntry 2 .waiting])) (fun t =>
        t.queue.entries.all (fun e => e.ending == .cancelled)
          && t.port.outstanding.any fun x => x.length == 16 && x.address == 320) = true := by
  decide +kernel

/-- R79: each take check at its boundary: kind 6, line 16, priority 8, a PULSE on a SENSE line, one tick too long. -/
theorem test_take_checks_at_their_boundaries :
    let f := takeFailure planBytes
    f pulseRequest = none ∧ f { pulseRequest with kind := 6 } = some .badKind
      ∧ f { pulseRequest with line := 16 } = some .badLine ∧ f { pulseRequest with priority := 8 } = some .badParam
      ∧ f { pulseRequest with atOnce := 2 } = some .badParam ∧ f { pulseRequest with p1 := 0 } = some .badParam
      ∧ f { pulseRequest with line := 1 } = some .lineMode ∧ f { pulseRequest with p1 := 24 } = none
      ∧ f { pulseRequest with p1 := 25 } = some .tooLong := by
  decide +kernel

theorem witness_posted_request :
    let s := { carrying (working (inFrame .running .none 100 .service) .pass) (.boardRead 31) 48 false with store := planStore }
    (s.Carries (.boardRead 31) ∧ word postedBytes.toList 0 = 1 ∧ s.queue.find 31 = none
        ∧ takeFailure s.store.plan (readRequest postedBytes.toList) = none ∧ s.queue.entries.length < 16)
      ∧ (word badKindBytes.toList 0 = 1
        ∧ takeFailure s.store.plan (readRequest badKindBytes.toList) = some .badKind) :=
  ⟨⟨⟨_, rfl, rfl, rfl⟩, by decide +kernel, rfl, by decide +kernel, by decide⟩, by decide +kernel, by decide +kernel⟩

/-- Fifteen entries held, with room for one more. -/
theorem witness_last_place :
    ({ Queue.reset with entries := (List.range 15).map fun k => pulseEntry k .waiting } : Queue).entries.length < 16
      ∧ ({ Queue.reset with entries := (List.range 15).map fun k => pulseEntry k .waiting } : Queue).find 31 = none := by
  decide

theorem witness_board_writes (s : State) :
    (carrying s (.resultWrite 2 .idle .done) 16 false).Carries (.resultWrite 2 .idle .done)
      ∧ (carrying s .statusFirst 32 false).Carries .statusFirst ∧ (carrying s .journalWrite 32 false).Carries .journalWrite :=
  ⟨test_carries _ _ _, test_carries _ _ _, test_carries _ _ _⟩

theorem witness_state_write :
    let u := fun a => { carrying (working (inFrame .running .none 100 .service) a) (.stateWrite 2 .cancelLate) 4 false with
      service := { Service.reset with activity := a, unit := .post 2 } }
    ((u .pass).Carries (.stateWrite 2 .cancelLate) ∧ StateWord.cancelLate.isFinal = true ∧ (u .pass).service.activity = .pass
        ∧ (u .pass).service.unit = .post 2)
      ∧ ((u .tail).Carries (.stateWrite 2 .cancelLate) ∧ (u .tail).service.activity = .tail
        ∧ (u .tail).service.unit = .post 2) :=
  ⟨⟨⟨_, rfl, rfl, rfl⟩, rfl, rfl, rfl⟩, ⟨_, rfl, rfl, rfl⟩, rfl, rfl⟩

/-- A TAKEN written by the scan, a CANCELLED, and a post list with a further entry. -/
theorem witness_state_writes_of_the_scan :
    let s := fun w => { scanning [pulseEntry 2 .finished] with port := (carrying State.reset (.stateWrite 2 w) 4 false).port }
    ((s .taken).Carries (.stateWrite 2 .taken) ∧ (s .taken).service.unit = .scan 2 ∧ StateWord.taken ≠ .cancelled)
      ∧ ((s .cancelled).Carries (.stateWrite 2 .cancelled) ∧ (s .cancelled).service.step = .c)
      ∧ (([4, 2] : List Nat).tail = 2 :: [] ∧ (scanning [pulseEntry 2 .finished]).queue.find 2 = some (pulseEntry 2 .finished)) :=
  ⟨⟨⟨_, rfl, rfl, rfl⟩, rfl, by decide⟩, ⟨⟨_, rfl, rfl, rfl⟩, rfl⟩, rfl, by decide⟩

theorem witness_status_write_of_a_pass :
    let s := carrying (working (inFrame .running .none 100 .service) .pass) .statusSecond 64 false
    s.Carries .statusSecond ∧ s.service.activity = .pass ∧ s.service.closingOwed = false ∧ s.service.owed = false :=
  ⟨test_carries _ _ _, rfl, rfl, rfl⟩

/-- A tail with a closing write owed, one with a pass owed, and a closing write with nothing after it; a plan status that is
still the one written, and one that is not. -/
theorem witness_status_writes_outside_a_pass :
    let s := carrying (working (inFrame .running .none 100 .service) .tail) .statusSecond 64 false
    let z := carrying (working (inEngine .armed .none) .statusWrite) .statusSecond 64 false
    let g : PlanStatus := { generation := 1, status := .current, detail := .none }
    (s.Carries .statusSecond ∧ s.service.activity = .tail
        ∧ ({ s.service with closingOwed := true } : Service).closingOwed = true
        ∧ ({ s.service with owed := true } : Service).owed = true)
      ∧ (z.Carries .statusSecond ∧ z.service.activity = .statusWrite ∧ z.control.engine ≠ .loading
        ∧ z.service.closingOwed = false ∧ z.service.owed = false)
      ∧ s.loader.status = s.service.snapshot.plan ∧ ({ s.loader with status := g } : Loader).status ≠ s.service.snapshot.plan :=
  ⟨⟨test_carries _ _ _, rfl, rfl, rfl⟩, ⟨test_carries _ _ _, rfl, by decide, rfl, rfl⟩, rfl, by decide⟩

/-- R69: an outcome that is posted while a load is in progress gives way to FILLING. -/
theorem test_a_posted_outcome_gives_way :
    ({ Loader.reset with
        filling := true, generation := 5, posted := false,
        status := { generation := 4, status := .superseded, detail := .none } } : Loader).post.status
      = { generation := 5, status := .filling, detail := .none } := by decide

/-- R128, R129: a post list whose first index is no longer held, and an empty one at a board position below B and at B. -/
theorem witness_posting_goes_on :
    let s := scanning [pulseEntry 2 .finished]
    (s.queue.find 5 = none ∧ s.queue.find 2 = some (pulseEntry 2 .finished))
      ∧ (∀ j ∈ ([] : List Nat), s.queue.find j = none)
      ∧ (0 < (withSetup s fun u => { u with boardCount := 1 }).control.setup.boardCount) ∧ s.control.setup.boardCount ≤ 0 := by
  decide

theorem witness_status_write_of_load :
    let s := carrying (working (inEngine .loading .load) .statusWrite) .statusSecond 64 false
    let z := { s with control := { s.control with loading := some Setup.reset } }
    z.Carries .statusSecond ∧ z.service.activity = .statusWrite ∧ z.control.engine = .loading
      ∧ z.control.loading = some Setup.reset :=
  ⟨⟨_, rfl, rfl, rfl⟩, rfl, rfl, rfl⟩

/-- A failure by an error, and by a timer that runs out at this very tick. -/
theorem witness_failures :
    let s := { carrying (inEngine .loading .load) .setupRead 64 false with now := 100 }
    ∃ x, s.port.outstanding = some x ∧ x.discard = false ∧ x.kind = .setupRead ∧ x.expiryTick ≤ s.now :=
  ⟨_, rfl, rfl, rfl, by decide⟩

/-- A failing read of the load in progress and a STALE one, a failing step A, board read and LOAD's status write, and a failing
journal write with a record that waits for its place. -/
theorem witness_kinds_of_failure :
    (loadingInRun.Carries .planRead ∧ loadingInRun.loader.readOut = .currentLoad ∧ loadingInRun.control.engine ≠ .loading)
      ∧ (let z := { loadingInRun with loader := { loadingInRun.loader with readOut := .stale } }
         z.Carries .planRead ∧ z.loader.readOut = .stale ∧ z.loader.filling = true)
      ∧ (carrying (working (inFrame .running .none 100 .service) .pass) .stepARead 32 false).Carries .stepARead
      ∧ (scanning []).Carries (.boardRead 2)
      ∧ (let s := carrying (working (inEngine .loading .load) .statusWrite) .statusFirst 32 false
         let z := { s with control := { s.control with loading := some Setup.reset } }
         z.Carries .statusFirst ∧ z.service.activity = .statusWrite ∧ z.control.engine = .loading
           ∧ z.control.loading = some Setup.reset)
      ∧ (let s := carrying (inFrame .running .none 100 .service) .journalWrite 32 false
         let z := { s with staging := { Staging.reset with offered := [{ body := .mark 1 2, frame := 0, time := 0 }] } }
         z.Carries .journalWrite ∧ z.staging.offered ≠ [] ∧ s.staging.offered = []) :=
  ⟨⟨⟨_, rfl, rfl, rfl⟩, rfl, by decide⟩, ⟨⟨_, rfl, rfl, rfl⟩, rfl, rfl⟩, ⟨_, rfl, rfl, rfl⟩, ⟨_, rfl, rfl, rfl⟩,
    ⟨⟨_, rfl, rfl, rfl⟩, rfl, rfl, rfl⟩, ⟨⟨_, rfl, rfl, rfl⟩, by decide, rfl⟩⟩

/-- A failing result write of step B and of step C, a failing state write, and a failing status write of a pass and of a tail.
-/
theorem witness_failing_writes :
    let b := carrying { scanning [] with service := { (scanning []).service with step := .b, postList := [2] } }
      (.resultWrite 2 .idle .done) 16 false
    let c := carrying (scanning []) (.stateWrite 2 .taken) 4 false
    (b.Carries (.resultWrite 2 .idle .done) ∧ b.service.activity = .pass ∧ b.service.step = .b)
      ∧ (c.Carries (.stateWrite 2 .taken) ∧ c.service.activity = .pass ∧ c.service.step = .c)
      ∧ ((carrying (scanning []) .statusFirst 32 false).Carries .statusFirst ∧ (scanning []).service.activity = .pass)
      ∧ (carrying (working (inFrame .running .none 1 .none) .tail) .statusSecond 64 false).Carries .statusSecond :=
  ⟨⟨test_carries _ _ _, rfl, rfl⟩, ⟨test_carries _ _ _, rfl, rfl⟩, ⟨test_carries _ _ _, rfl⟩, test_carries _ _ _⟩

/-- A discarded transfer that ends by its own response, an error, its timer at this very tick, and its end. -/
theorem witness_discarded_ends :
    let s := { carrying (inEngine .halted .none) .journalWrite 32 true with now := 100 }
    ∃ x, x.discard = true ∧ s.EndsTransfer .journalWriteDone x ∧ s.EndsTransfer .busError x ∧ s.EndsTransfer .timeout x
      ∧ s.EndsTransfer .discardedTransferEnd x := by
  refine ⟨_, rfl, ⟨rfl, ?_⟩, ⟨rfl, ?_⟩, ⟨rfl, ?_⟩, ⟨rfl, ?_⟩⟩
  · simp
  · simp
  · simp
  · simp

/-- Every response ends the transfer of its kind. -/
theorem witness_every_response_ends_its_transfer (s : State) :
    (∀ d, ∃ x, (carrying s .setupRead 64 false).EndsTransfer (.setupReadDone d) x)
      ∧ (∀ d, ∃ x, (carrying s .hostControlRead 32 false).EndsTransfer (.loadHostControlReadDone d) x)
      ∧ (∀ d, ∃ x, (carrying s .stepARead 32 false).EndsTransfer (.stepAReadDone d) x)
      ∧ (∀ d, ∃ x, (carrying s .planRead 32 false).EndsTransfer (.planReadDone d) x)
      ∧ (∀ d, ∃ x, (carrying s (.boardRead 31) 48 false).EndsTransfer (.boardEntryReadDone d) x)
      ∧ (∃ x, (carrying s (.resultWrite 0 .idle .done) 16 false).EndsTransfer .resultWriteDone x)
      ∧ (∃ x, (carrying s (.stateWrite 0 .done) 4 false).EndsTransfer .stateWordWriteDone x)
      ∧ (∃ x, (carrying s .statusFirst 32 false).EndsTransfer .statusFirstWriteDone x)
      ∧ (∃ x, (carrying s .statusSecond 64 false).EndsTransfer .statusSecondWriteDone x) := by
  refine ⟨fun d => ⟨_, rfl, ?_⟩, fun d => ⟨_, rfl, ?_⟩, fun d => ⟨_, rfl, ?_⟩, fun d => ⟨_, rfl, ?_⟩, fun d => ⟨_, rfl, ?_⟩,
    ⟨_, rfl, ?_⟩, ⟨_, rfl, ?_⟩, ⟨_, rfl, ?_⟩, ⟨_, rfl, ?_⟩⟩ <;> simp

/-- R39: line 0 of the worked plan is DRIVE, line 1 SENSE, and a setting of 2 has no meaning. -/
theorem test_plan_lines :
    planLine planBytes 0 = some { direction := .drive, rest := false, safe := true, invert := false }
      ∧ planLine planBytes 1 = some { direction := .sense, rest := false, safe := false, invert := false }
      ∧ planLine (planBytes.set 35 2) 0 = none := by
  decide +kernel

/-- The writer ready, and just not: no record, and W − Rl equal to J. -/
theorem witness_writer_ready :
    let st := Staging.reset.offer false (.mark 1 2) (0, 0)
    let w : Writer := { Writer.reset with size := 16, written := 15, enabled := true }
    let s := { inEngine .armed .none with staging := st, writer := w }
    s.WriterReady ∧ ¬ ({ s with staging := .reset } : State).WriterReady
      ∧ ¬ ({ s with writer := { w with written := 16 } } : State).WriterReady := by
  unfold State.WriterReady
  decide

/-- The end of a discarded transfer lets the writer that waits go on. -/
theorem test_discarded_end_grants :
    let s := carrying (inEngine .halted .none) .stepARead 32 true
    nextHas (exec .discardedTransferEnd
      { s with port := { s.port with writer := some { kind := .journalWrite, address := 64, length := 32 } } })
      (fun t => t.port.writer.isNone && t.port.outstanding.any fun x => x.address == 64 && !x.discard) = true := by
  decide +kernel

/-- R112: a record offered to a full staging whose head is at the port joins when the head leaves at that tick. -/
theorem test_a_late_record_takes_the_place_of_the_head :
    let st := Staging.reset.offerAll false (List.replicate 32 (.mark 1 2)) (0, 0)
    (st.offer true (.mark 3 4) (5, 6)).dropHead.judge.records.getLast?
        = some { body := .mark 3 4, frame := 5, time := 6, lostBefore := 0 }
      ∧ (st.offer true (.mark 3 4) (5, 6)).judge.lost = 1 := by
  decide +kernel

/-- Each requester waits alone, or behind none of higher priority. -/
theorem witness_grants :
    let w : Waiting := { kind := .planRead, address := 0, length := 32 }
    ({ Port.reset with service := some w } : Port).service = some w ∧ Port.reset.outstanding = none
      ∧ (({ Port.reset with writer := some w, loader := some w } : Port).service = none
        ∧ ({ Port.reset with writer := some w, loader := some w } : Port).writer = some w)
      ∧ (({ Port.reset with loader := some w } : Port).writer = none
        ∧ ({ Port.reset with loader := some w } : Port).loader = some w) := by decide

/-- Thirty-one records leave one place; thirty-two leave none; the accumulator at its ceiling and one below. -/
theorem witness_staging_places :
    (Staging.reset.offerAll false (List.replicate 31 (.mark 1 2)) (0, 0)).records.length = 31
      ∧ (Staging.reset.offerAll false (List.replicate 32 (.mark 1 2)) (0, 0)).records.length = 32
      ∧ (Staging.reset.offerAll false (List.replicate 33 (.mark 1 2)) (0, 0)).records.length = 32
      ∧ (Staging.reset.offerAll false (List.replicate 33 (.mark 1 2)) (0, 0)).lost = 1
      ∧ saturatingSucc 0xFFFFFFFF = 0xFFFFFFFF ∧ saturatingSucc 0xFFFFFFFE = 0xFFFFFFFF := by
  decide +kernel

end Sys2Proof.Tests
end

section
/-! PROOFS. Output actions on a line cell (R21 to R24): what the end of an action and the start of a LEVEL or a PULSE leave, and
the two statements about them. -/

namespace Sys2Proof.Proofs.OutputActions

open Sys2Proof Sys2Proof.Machine

/-! ## The end of a running action -/

/-- R21: an action whose end tick has come is ended. -/
theorem endDue_of_due {c : Cell} {r : RunningAction} {now : Nat} (hr : c.running = some r) (h : r.stop ≤ now) :
    c.endDue now = c.endAction := by
  simp [Cell.endDue, hr, h]

/-- R21: an action runs on before its end tick. -/
theorem endDue_of_lt_stop {c : Cell} {r : RunningAction} {now : Nat} (hr : c.running = some r) (h : now < r.stop) :
    c.endDue now = c := by
  simp [Cell.endDue, hr, Nat.not_le.mpr h]

/-- R21, R22: the end of an action, with its test in the form the statements ask it. -/
theorem endDue_eq_ite (c : Cell) (now : Nat) :
    c.endDue now = if c.running.any (fun r => r.stop ≤ now) then c.endAction else c := by
  cases hr : c.running with
  | none => simp [Cell.endDue, hr]
  | some r => simp [Cell.endDue, hr]

/-- R22: the level before a start, with an action that ends at the same tick taken first. -/
theorem endDue_logical (c : Cell) (now : Nat) :
    (c.endDue now).logical = if c.running.any (fun r => r.stop ≤ now) then c.settings.rest else c.logical := by
  rw [endDue_eq_ite]
  split <;> rfl

/-- R21: the running action after the end of one that is due. -/
theorem endDue_running (c : Cell) (now : Nat) :
    (c.endDue now).running = if c.running.any (fun r => r.stop ≤ now) then none else c.running := by
  rw [endDue_eq_ite]
  split <;> rfl

/-! ## The start of a LEVEL and of a PULSE -/

/-- R23: a LEVEL on a drive line changes the level, after the end of an action that is due. -/
theorem take_level {c : Cell} (hd : c.settings.direction = .drive) (op : LevelOp) (now : Nat) (source : WindowSource) :
    c.take now (.level op) source = { c.endDue now with logical := op.apply (c.endDue now).logical } := by
  simp [Cell.take, Cell.openWindow, Cell.applyOutput, hd]

/-- R21: a LEVEL on a line that is not DRIVE is not applied. -/
theorem take_level_of_not_drive {c : Cell} (hd : c.settings.direction ≠ .drive) (op : LevelOp) (now : Nat)
    (source : WindowSource) : c.take now (.level op) source = c := by
  simp [Cell.take, Cell.openWindow, applyOutput_of_not_drive hd]

/-- R23: a SET at level 1 and a CLEAR at level 0 change nothing. -/
theorem levelOp_apply_eq_self {op : LevelOp} {level : Bool}
    (h : op = .set ∧ level = true ∨ op = .clear ∧ level = false) : op.apply level = level := by
  obtain ⟨rfl, rfl⟩ | ⟨rfl, rfl⟩ := h <;> rfl

/-- R24: a PULSE on a drive line gives NOT rest level and runs for its width. -/
theorem take_pulse {c : Cell} (hd : c.settings.direction = .drive) (w now : Nat) (source : WindowSource) :
    c.take now (.pulse w) source =
      { c with logical := !c.settings.rest, running := some { start := now, stop := now + w, op := .pulse w } } := by
  simp [Cell.take, Cell.openWindow, Cell.applyOutput, hd]

/-! ## The statements -/

/-- Settles O34: on a drive line the LEVEL applies to the level that the end of a due action leaves, and keeps the rest. -/
theorem levelSetsClearsOrToggles : Obligations.LevelSetsClearsOrToggles := by
  intro c op now source before
  have hbefore : (c.endDue now).logical = before := endDue_logical c now
  refine ⟨fun hd => ?_, fun hd => take_level_of_not_drive hd op now source, rfl⟩
  rw [take_level hd, hbefore]
  refine ⟨?level, endDue_settings c now, endDue_window c now, levelOp_apply_eq_self, endDue_running c now⟩
  case level => cases op <;> rfl

/-- Settles O35: the pulse is the cell's running action, so that its end tick alone ends it and gives the rest level. -/
theorem pulseLeavesRestAndReturns : Obligations.PulseLeavesRestAndReturns := by
  intro c w now source hd
  have hlevel : (c.take now (.pulse w) source).logical = !c.settings.rest := by rw [take_pulse hd]
  have hrunning : (c.take now (.pulse w) source).running = some { start := now, stop := now + w, op := .pulse w } := by
    rw [take_pulse hd]
  have hend := endDue_of_due hrunning (Nat.le_refl (now + w))
  refine ⟨hlevel, hrunning, ?restLevel, ?ended, fun t ht => endDue_of_lt_stop hrunning ht, fun engine hl => ?pin⟩
  case restLevel =>
    rw [hend]
    exact congrArg LineSettings.rest (take_settings c now (.pulse w) source)
  case ended => rw [hend]; rfl
  case pin => exact pin_congr (take_settings c now (.pulse w) source) (hlevel.trans hl.symm) engine

end Sys2Proof.Proofs.OutputActions
end

section
/-! PROOFS. The frame end: the command that brings it runs the one operation `frameEnd`, and what that operation does to the
score (R14, R135, R149, R151); the statement about the score. -/

namespace Sys2Proof.Proofs.FrameScore

open Sys2Proof Sys2Proof.Machine

/-! ## The three ways to a frame end -/

/-- A timed event that is due has its effect. -/
theorem whenDue_of_due {due : Bool} (h : due = true) (f : State → State) (s : State) : whenDue due f s = f s := by
  simp [whenDue, h]

/-- R7: when the end of an internal frame is due. -/
theorem internalEndDue_iff (s : State) : internalEndDue s = true ↔
    s.control.setup.mode = .internal ∧ s.timer.frameTime = some s.timer.geometry.frameLength := by
  simp [internalEndDue, atFrameTime]

/-- R11: when the end of a frame with a missing edge is due. -/
theorem missingDue_iff (s : State) : missingDue s = true ↔ s.control.setup.mode = .external
    ∧ s.timer.frameTime = some (s.timer.geometry.frameLength + s.control.setup.tolerance) := by
  simp [missingDue, atFrameTime]

/-- R10: an edge inside the acceptance window ends the frame. -/
theorem edgeInFrame_of_accepted {t : Nat} {s : State} (h0 : t ≠ 0)
    (hopen : s.timer.geometry.frameLength ≤ t + s.control.setup.tolerance)
    (hclose : t ≤ s.timer.geometry.frameLength + s.control.setup.tolerance) :
    edgeInFrame t s = settlePort (frameEnd false s) := by
  simp [edgeInFrame, h0, Nat.not_lt.mpr hopen, hclose]

/-- R9: an active edge in external mode inside a running frame is judged by its frame time. -/
theorem judgeEdge_of_frame {t : Nat} {s : State} (hmode : s.control.setup.mode = .external)
    (hengine : s.control.engine ≠ .syncWait) (htime : s.timer.frameTime = some t) :
    judgeEdge s = edgeInFrame t s := by
  simp [judgeEdge, hmode, hengine, htime]

/-- R9: an active edge is judged after the sample is taken. -/
theorem execSyncInEdge_of_active {level : Bool} {s : State}
    (h : activeEdge s.control.setup s.timer.syncSample level = true) :
    execSyncInEdge level s = .next (judgeEdge (sampleSync level s)) := by
  simp [execSyncInEdge, h]

/-- R7, R10, R11: whichever command ends the frame runs `frameEnd`, an edge after its sample is taken. -/
theorem exec_of_frameEndsBy {c : Instr} {missing : Bool} {s : State} (h : s.FrameEndsBy c missing) :
    ∃ u, (u = s ∨ ∃ level, u = sampleSync level s) ∧ exec c s = .next (settlePort (frameEnd missing u)) := by
  obtain ⟨rfl, rfl, hmode, htime⟩ | ⟨rfl, rfl, hmode, htime⟩
    | ⟨level, time, rfl, rfl, hmode, hengine, hedge, htime, h0, hopen, hclose⟩ := h
  case inl =>
    exact ⟨s, .inl rfl, congrArg Host.Outcome.next (whenDue_of_due ((internalEndDue_iff s).mpr ⟨hmode, htime⟩) _ s)⟩
  case inr.inl =>
    exact ⟨s, .inl rfl, congrArg Host.Outcome.next (whenDue_of_due ((missingDue_iff s).mpr ⟨hmode, htime⟩) _ s)⟩
  case inr.inr =>
    have hjudge : judgeEdge (sampleSync level s) = edgeInFrame time (sampleSync level s) :=
      judgeEdge_of_frame hmode hengine htime
    have hend : edgeInFrame time (sampleSync level s) = settlePort (frameEnd false (sampleSync level s)) :=
      edgeInFrame_of_accepted h0 hopen hclose
    exact ⟨sampleSync level s, .inr ⟨level, rfl⟩,
      (execSyncInEdge_of_active hedge).trans (congrArg Host.Outcome.next (hjudge.trans hend))⟩

/-! ## What a frame end scores -/

/-- A raised cause leaves the setup in force. -/
@[simp] theorem raiseIf_setup (c : Control) (b : Bool) (k : Cause) : (c.raiseIf b k).setup = c.setup := by
  cases b <;> rfl

/-- R14: the closing of a frame leaves the setup in force. -/
@[simp] theorem closeFrame_setup (missing : Bool) (s : State) :
    (closeFrame missing s).control.setup = s.control.setup := by
  simp [closeFrame, serviceFrameEnd]

/-- R11, R135: the closing of a frame reports a missing edge and a cut or owed pass, and nothing else. -/
theorem closeFrame_health (missing : Bool) (s : State) :
    (closeFrame missing s).health =
      let reported := if missing then s.health.reportSync else s.health
      if s.service.activity == .pass || s.service.owed then reported.reportOverrun else reported := rfl

/-- R14: the closing of a frame leaves the score. -/
@[simp] theorem closeFrame_score (missing : Bool) (s : State) :
    (closeFrame missing s).health.score = s.health.score := by
  rw [closeFrame_health]
  cases s.service.activity == .pass || s.service.owed <;> cases missing <;> rfl

/-- R11, R135, R149: the closing of a frame leaves the fault set that the frame is scored with. -/
@[simp] theorem closeFrame_faults (missing : Bool) (s : State) :
    (closeFrame missing s).health.faults = s.endingFaults missing := by
  rw [closeFrame_health, State.endingFaults]
  cases s.service.activity == .pass || s.service.owed <;> cases missing <;>
    simp [Health.reportSync, Health.reportOverrun]

/-- R151: the frame is scored from the faults it ends with. -/
theorem scoreFrame_closeFrame_score (missing : Bool) (s : State) :
    (scoreFrame (closeFrame missing s)).health.score = s.endingScore missing := by
  simp [scoreFrame, State.endingScore]

/-- R14: what follows the settlement leaves the score, whatever state it leaves the engine in. -/
@[simp] theorem afterSettlement_score (r : Settlement) (wasHeld : Bool) (s : State) :
    (afterSettlement r wasHeld s).health.score = s.health.score := by
  unfold afterSettlement
  cases r.engine <;> rfl

/-- R14, R151: a frame end leaves the score of the ending frame. -/
theorem frameEnd_score (missing : Bool) (s : State) : (frameEnd missing s).health.score = s.endingScore missing :=
  (afterSettlement_score _ _ _).trans (scoreFrame_closeFrame_score missing s)

/-- The sample of SYNC_IN has no part in the score. -/
@[simp] theorem sampleSync_endingScore (level missing : Bool) (s : State) :
    (sampleSync level s).endingScore missing = s.endingScore missing := rfl

/-! ## The rule of the score -/

/-- R151: no kind is present exactly in the empty set. -/
theorem isEmpty_iff (f : FaultSet) : f.isEmpty = true ↔ f = .empty := by
  obtain ⟨overrun, sync, bus, loss⟩ := f
  simp [FaultSet.isEmpty, FaultSet.empty, and_assoc]

/-- R151: the leak. -/
theorem scoreAfter_empty (u : Setup) (score : Nat) : scoreAfter u score .empty = score - 1 := rfl

/-- R151: the weights. -/
theorem scoreAfter_of_ne_empty {f : FaultSet} (h : f ≠ .empty) (u : Setup) (score : Nat) :
    scoreAfter u score f = min 255 (score + faultWeight u f) :=
  if_neg (mt (isEmpty_iff f).mp h)

/-- R151: neither the leak nor the weights take the score past 255. -/
theorem scoreAfter_le {score : Nat} (h : score ≤ 255) (u : Setup) (f : FaultSet) : scoreAfter u score f ≤ 255 := by
  by_cases hf : f = .empty
  case pos =>
    rw [hf, scoreAfter_empty]
    exact (Nat.sub_le score 1).trans h
  case neg =>
    rw [scoreAfter_of_ne_empty hf]
    exact Nat.min_le_left 255 _

/-! ## The statement -/

/-- Settles O28: the three ways to a frame end meet in `frameEnd`, whose score the two branches of the rule give. -/
theorem scoreLeaksOrAddsWeights : Obligations.ScoreLeaksOrAddsWeights := by
  refine ⟨fun c missing s h => ?frameEnds, fun u score f => ⟨?leak, ?weights, fun h => scoreAfter_le h u f⟩⟩
  case frameEnds =>
    obtain ⟨v, hv, hexec⟩ := exec_of_frameEndsBy h
    have hscore : v.endingScore missing = s.endingScore missing := by
      obtain rfl | ⟨level, rfl⟩ := hv
      · rfl
      · exact sampleSync_endingScore level missing s
    refine ⟨settlePort (frameEnd missing v), hexec, ?_⟩
    calc (settlePort (frameEnd missing v)).health.score
        = (frameEnd missing v).health.score := congrArg Health.score (settlePort_health _)
      _ = v.endingScore missing := frameEnd_score missing v
      _ = s.endingScore missing := hscore
  case leak => rintro rfl; exact scoreAfter_empty u score
  case weights => exact fun hf => scoreAfter_of_ne_empty hf u score

end Sys2Proof.Proofs.FrameScore
end

section
/-! PROOFS. What one step can do, said once: the moves of the part, with the conditions under which each is made. Every
invariant is proved move by move. -/

namespace Sys2Proof.Proofs.Moves

open Sys2Proof Sys2Proof.Machine

/-! ## The moves -/

/-- The port freed of its outstanding transfer, as the effect of an end meets it. -/
def freePort (s : State) : State := { s with port := { s.port with outstanding := none } }

/-- R142 to R145: what the requester of a transfer does at a response that answers it, or at its failure. -/
inductive Answers (x : Transfer) : (State → State) → Prop
  | setupRead (data : List Byte) : x.kind = .setupRead → Answers x (setupReturns data)
  | hostControl (data : List Byte) : x.kind = .hostControlRead → Answers x (loadHostControlReturns data)
  | stepA (data : List Byte) : x.kind = .stepARead → Answers x (stepAReturns data)
  | planRead (data : List Byte) : x.kind = .planRead → Answers x (planReadReturns data)
  | boardRead (board : Nat) (data : List Byte) : x.kind = .boardRead board → Answers x (handleEntry board data)
  | resultWrite (board : Nat) (result : ResultFields) (final : StateWord) :
      x.kind = .resultWrite board result final → Answers x (requestState board final)
  | stateWrite (board : Nat) (word : StateWord) : x.kind = .stateWrite board word → Answers x (stateWordDone board word)
  | statusFirst : x.kind = .statusFirst → Answers x statusFirstDone
  | statusSecond : x.kind = .statusSecond → Answers x statusSecondDone
  | journalWrite : x.kind = .journalWrite → Answers x journalDone
  | failure (detail : PlanDetail) : Answers x (fun u => failureHanded detail x.kind (countFailure u))

/-- What a command can make of a state. -/
inductive Move (s : State) : State → Prop
  | stays : Move s s
  | reset : Move s (resetPart s)
  | refused (code : Byte) (outcome : CmdOutcome) : Move s { s with control := s.control.refuse code outcome }
  | load : s.control.engine = .idle → s.control.pending = .none → Move s (takeLoad s)
  | startInternal : s.control.engine = .armed → s.control.pending = .none → s.control.setup.mode = .internal →
      Move s (settlePort (startInternal s))
  | startExternal : s.control.engine = .armed → s.control.pending = .none → s.control.setup.mode = .external →
      Move s (startExternal s)
  | stopPends : s.control.engine = .running ∨ s.control.engine = .held → s.control.pending = .none → Move s (stopPends s)
  | stopInSyncWait : s.control.engine = .syncWait → s.control.pending = .none → Move s (stopInSyncWait s)
  | resume : s.control.engine = .held → s.control.pending = .none → s.health.score ≤ s.control.setup.resume →
      Move s (takeResume s)
  | halt : s.control.engine ≠ .halted → Move s (haltEngine s)
  | haltAgain : s.control.engine = .halted → Move s (haltAgain s)
  | clear : s.control.engine = .armed ∨ s.control.engine = .halted → s.control.pending = .none → Move s (takeClear s)
  | xbase (high : Bool) (w : Word) : Move s { s with control := s.control.writeXbase high w }
  | cause (w : Word) : Move s { s with control := s.control.clearCause w }
  | mask (w : Word) : Move s { s with control := s.control.writeMask w }
  | sample (level : Bool) : Move s (sampleSync level s)
  | firstEdge (level : Bool) : s.control.engine = .syncWait → Move s (firstEdge (sampleSync level s))
  | earlyEdge (level : Bool) : s.timer.frameTime.isSome = true → Move s (earlyEdge (sampleSync level s))
  | frameEnd (missing : Bool) (u : State) : (u = s ∨ ∃ level, u = sampleSync level s) →
      s.timer.frameTime.isSome = true → Move s (settlePort (frameEnd missing u))
  | lineEdge (levels : BitVec 16) :
      Move s (settlePort (sampleLines allLines { s with outside := { s.outside with lines := levels } }))
  | instant (t : Timer) : t.frameTime = s.timer.frameTime → t.nextFrame = s.timer.nextFrame →
      t.current = s.timer.current → Move s { s with timer := t }
  | lines (v : Vector Cell 16) (u : StaticUnit) : Move s { s with cells := v, static := u }
  | closeWindow (l : Line) (w : Window) : Move s (closeDueWindow l w s)
  | dynamic : Move s (startDynamic s)
  | minislot (m : Nat) : s.timer.frameTime.isSome = true → Move s (minislotStarts m s)
  | spotEnd : Move s (finishSpotDue s)
  | service : s.timer.frameTime.isSome = true → Move s (serviceWindow s)
  | closing : s.service.activity = .closingWait → Move s (grantFree (beginClosing s))
  | ends (x : Transfer) (f : State → State) : s.port.outstanding = some x → x.discard = false → Answers x f →
      Move s (grantAtEnd s.port (pollWriter (f (freePort s))))
  | discarded (x : Transfer) : s.port.outstanding = some x → x.discard = true →
      Move s (grantAtEnd s.port (pollWriter (freePort s)))

/-! ## Every command makes one of the moves -/

/-- R158: a command other than HALT is refused, or taken where its state accepts it. -/
theorem move_of_judgeCommand {code : Byte} {accepted : Bool} {taken : State → State} {s : State}
    (h : s.control.pending = .none → accepted = true → Move s (taken s)) :
    Move s (judgeCommand code accepted taken s) := by
  unfold judgeCommand
  split
  · exact .refused _ _
  · next hp =>
    split
    · next ha => exact h (not_not.mp hp) ha
    · exact .refused _ _

theorem move_of_load (s : State) : Move s (loadWritten s) :=
  move_of_judgeCommand fun hp ha => .load (by simpa using ha) hp

theorem move_of_start (s : State) : Move s (startWritten s) := by
  refine move_of_judgeCommand fun hp ha => ?_
  have he : s.control.engine = .armed := by simpa using ha
  unfold takeStart
  cases hm : s.control.setup.mode with
  | internal => exact .startInternal he hp hm
  | external => exact .startExternal he hp hm

theorem move_of_stop (s : State) : Move s (stopWritten s) := by
  refine move_of_judgeCommand fun hp ha => ?_
  unfold takeStop
  split
  · next he => exact .stopInSyncWait he hp
  · next he => exact .stopPends (by simpa [acceptsStop, he] using ha) hp

theorem move_of_resume (s : State) : Move s (resumeWritten s) := by
  refine move_of_judgeCommand fun hp ha => ?_
  have ha : s.control.engine = .held ∧ s.health.score ≤ s.control.setup.resume := by simpa [acceptsResume] using ha
  exact .resume ha.1 hp ha.2

theorem move_of_halt (s : State) : Move s (haltWritten s) := by
  unfold haltWritten
  split
  · next h => exact .haltAgain h
  · next h => exact .halt h

theorem move_of_clear (s : State) : Move s (clearWritten s) :=
  move_of_judgeCommand fun hp ha => .clear (by simpa [acceptsClear] using ha) hp

/-- R158, R177: a word written to CMD. -/
theorem move_of_cmd (w : Word) (s : State) : Move s (cmdWritten w s) := by
  unfold cmdWritten
  split
  · exact move_of_load s
  · exact move_of_start s
  · exact move_of_stop s
  · exact move_of_resume s
  · exact move_of_halt s
  · exact move_of_clear s
  · exact .refused _ _

/-- R172: any write at the register port. -/
theorem move_of_register (offset size : Nat) (w : Word) (s : State) : Move s (registerWritten offset size w s) := by
  unfold registerWritten
  split
  · exact .stays
  · split
    · exact .xbase _ _
    · exact .xbase _ _
    · exact move_of_cmd w s
    · exact .cause _
    · exact .mask _
    · exact .stays

/-- A timed event: its effect when it is due, else nothing. -/
theorem move_of_whenDue {due : Bool} {f : State → State} {s : State} (h : due = true → Move s (f s)) :
    Move s (whenDue due f s) := by
  unfold whenDue
  split
  · next hd => exact h hd
  · exact .stays

/-- An event that acts on what the state names, or on nothing. -/
theorem move_of_elim {α : Type} {o : Option α} {f : α → State} {s : State} (h : ∀ a, o = some a → Move s (f a)) :
    Move s (o.elim s f) := by
  cases o with
  | none => exact .stays
  | some a => exact h a rfl

/-- R9 to R12: an active edge. -/
theorem move_of_judgeEdge (level : Bool) (s : State) : Move s (judgeEdge (sampleSync level s)) := by
  unfold judgeEdge
  split
  · split
    · next he => exact .firstEdge level he
    · split
      · next t ht =>
        have hsome : s.timer.frameTime.isSome = true := by
          have : s.timer.frameTime = some t := ht
          simp [this]
        unfold edgeInFrame
        split
        · exact .sample level
        · split
          · exact .earlyEdge level hsome
          · split
            · exact .frameEnd false _ (.inr ⟨level, rfl⟩) hsome
            · exact .sample level
      · exact .sample level
  · exact .sample level

/-- R142, R146: a response whose answer is among the answers of the outstanding transfer. -/
theorem move_of_respond {e : Transfer → Option (State → State)} {s : State}
    (h : ∀ x f, e x = some f → x.discard = false → Answers x f) : Move s (respond e s) := by
  cases ho : s.port.outstanding with
  | none => rw [respond_of_none (by simp [ho])]; exact .stays
  | some x =>
    cases he : e x with
    | none =>
      rw [respond_of_none (by simpa [ho] using he)]
      exact .stays
    | some f =>
      cases hd : x.discard with
      | true =>
        rw [respond_of_discarded ho hd he]
        exact .discarded x ho hd
      | false =>
        rw [respond_of_live ho hd he]
        exact .ends x f ho hd (h x f he hd)

/-- A response that asks for one kind of transfer. -/
theorem move_of_respond_kind {k : TransferKind} {f : Transfer → State → State} {s : State}
    (h : ∀ x, x.kind = k → Answers x (f x)) :
    Move s (respond (fun x => if x.kind = k then some (f x) else none) s) := by
  refine move_of_respond fun x g hx _ => ?_
  obtain ⟨hk, rfl⟩ : x.kind = k ∧ f x = g := by simpa using hx
  exact h x hk

/-- R77: which transfer BOARD_ENTRY_READ_DONE ends. -/
theorem boardReadOf_eq_some {k : TransferKind} {i : Nat} : k.boardReadOf = some i ↔ k = .boardRead i := by
  cases k <;> simp [TransferKind.boardReadOf]

/-- R88: which transfer RESULT_WRITE_DONE ends. -/
theorem afterResult_eq_some {k : TransferKind} {f : State → State} :
    k.afterResult = some f ↔ ∃ i r w, k = .resultWrite i r w ∧ f = requestState i w := by
  cases k <;> simp [TransferKind.afterResult, eq_comm]

/-- R88: which transfer STATE_WORD_WRITE_DONE ends. -/
theorem afterStateWord_eq_some {k : TransferKind} {f : State → State} :
    k.afterStateWord = some f ↔ ∃ i w, k = .stateWrite i w ∧ f = stateWordDone i w := by
  cases k <;> simp [TransferKind.afterStateWord, eq_comm]

/-- R143, R144: an error response or the timer. -/
theorem move_of_failure (detail : PlanDetail) (s : State) : Move s (transferFails detail s) := by
  refine move_of_respond fun x f hx _ => ?_
  obtain rfl : (fun u => failureHanded detail x.kind (countFailure u)) = f := by simpa using hx
  exact .failure detail

/-- The state a command leaves. Every command leaves one: the part never stops. -/
theorem exists_move (c : Instr) (s : State) : ∃ t, exec c s = .next t ∧ Move s t := by
  cases c with
  | resetN => exact ⟨_, rfl, .reset⟩
  | load => exact ⟨_, rfl, move_of_load s⟩
  | start => exact ⟨_, rfl, move_of_start s⟩
  | stop => exact ⟨_, rfl, move_of_stop s⟩
  | resume => exact ⟨_, rfl, move_of_resume s⟩
  | halt => exact ⟨_, rfl, move_of_halt s⟩
  | clear => exact ⟨_, rfl, move_of_clear s⟩
  | unknownCommandCode w => exact ⟨_, rfl, move_of_cmd w s⟩
  | xbaseWrite high w => exact ⟨_, rfl, .xbase high w⟩
  | causeWrite w => exact ⟨_, rfl, .cause w⟩
  | maskWrite w => exact ⟨_, rfl, .mask w⟩
  | ignoredRegisterWrite o n w => exact ⟨_, rfl, move_of_register o n w s⟩
  | syncInEdge level =>
    refine ⟨_, rfl, ?_⟩
    split
    · exact move_of_judgeEdge level s
    · exact .sample level
  | lineEdge levels => exact ⟨_, rfl, .lineEdge levels⟩
  | internalFrameEnd =>
    refine ⟨_, rfl, move_of_whenDue fun hd => .frameEnd false s (.inl rfl) ?_⟩
    have ht := ((FrameScore.internalEndDue_iff s).mp hd).2
    simp [ht]
  | syncMissing =>
    refine ⟨_, rfl, move_of_whenDue fun hd => .frameEnd true s (.inl rfl) ?_⟩
    have ht := ((FrameScore.missingDue_iff s).mp hd).2
    simp [ht]
  | syncOutPulseEnd => exact ⟨_, rfl, move_of_whenDue fun _ => .instant _ rfl rfl rfl⟩
  | slotStart => exact ⟨_, rfl, move_of_elim fun _ _ => .instant _ rfl rfl rfl⟩
  | staticActionStart => exact ⟨_, rfl, move_of_elim fun _ _ => .lines _ _⟩
  | burstPeriodChange l => exact ⟨_, rfl, .lines _ s.static⟩
  | outputActionEnd l => exact ⟨_, rfl, .lines _ s.static⟩
  | windowCloseTick l => exact ⟨_, rfl, move_of_elim fun w _ => .closeWindow l w⟩
  | dynamicPhaseStart => exact ⟨_, rfl, move_of_whenDue fun _ => .dynamic⟩
  | minislotStart =>
    refine ⟨_, rfl, move_of_elim fun m hm => .minislot m ?_⟩
    cases ht : s.timer.frameTime with
    | none => simp [minislotStarting, ht] at hm
    | some t => rfl
  | spotActionEnd => exact ⟨_, rfl, .spotEnd⟩
  | serviceWindowStart =>
    refine ⟨_, rfl, move_of_whenDue fun hd => .service ?_⟩
    have ht : s.timer.frameTime = some (s.timer.geometry.staticLength + s.timer.geometry.dynamicLength) := by
      have := (Bool.and_eq_true _ _ ▸ hd : _ ∧ _).2
      simpa [atFrameTime] using this
    simp [ht]
  | setupReadDone d => exact ⟨_, rfl, move_of_respond_kind fun _ hk => .setupRead _ hk⟩
  | loadHostControlReadDone d => exact ⟨_, rfl, move_of_respond_kind fun _ hk => .hostControl _ hk⟩
  | stepAReadDone d => exact ⟨_, rfl, move_of_respond_kind fun _ hk => .stepA _ hk⟩
  | planReadDone d =>
    exact ⟨_, rfl, move_of_respond_kind (f := fun x => planReadReturns (d.toList.take x.length))
      fun _ hk => .planRead _ hk⟩
  | boardEntryReadDone d =>
    refine ⟨_, rfl, move_of_respond fun x f hx _ => ?_⟩
    obtain ⟨i, hi, rfl⟩ := Option.map_eq_some_iff.mp hx
    exact .boardRead i _ (boardReadOf_eq_some.mp hi)
  | resultWriteDone =>
    refine ⟨_, rfl, move_of_respond fun x f hx _ => ?_⟩
    obtain ⟨i, r, w, hk, rfl⟩ := afterResult_eq_some.mp hx
    exact .resultWrite i r w hk
  | stateWordWriteDone =>
    refine ⟨_, rfl, move_of_respond fun x f hx _ => ?_⟩
    obtain ⟨i, w, hk, rfl⟩ := afterStateWord_eq_some.mp hx
    exact .stateWrite i w hk
  | statusFirstWriteDone => exact ⟨_, rfl, move_of_respond_kind fun _ hk => .statusFirst hk⟩
  | statusSecondWriteDone => exact ⟨_, rfl, move_of_respond_kind fun _ hk => .statusSecond hk⟩
  | closingStatusWrite =>
    refine ⟨_, rfl, move_of_whenDue fun hd => .closing ?_⟩
    have := (Bool.and_eq_true _ _ ▸ hd : _ ∧ _).1
    simpa using this
  | journalWriteDone => exact ⟨_, rfl, move_of_respond_kind fun _ hk => .journalWrite hk⟩
  | timeout => exact ⟨_, rfl, move_of_whenDue fun _ => move_of_failure _ s⟩
  | busError => exact ⟨_, rfl, move_of_failure _ s⟩
  | lateResponse => exact ⟨_, rfl, .stays⟩
  | discardedTransferEnd =>
    refine ⟨_, rfl, move_of_respond fun x f hx hd => ?_⟩
    simp [hd] at hx
  | syncAcceptanceOpen => exact ⟨_, rfl, move_of_whenDue fun _ => .instant _ rfl rfl rfl⟩

/-- Every command makes one of the moves. -/
theorem move_of_exec {c : Instr} {s t : State} (h : exec c s = .next t) : Move s t := by
  obtain ⟨u, hu, hm⟩ := exists_move c s
  obtain rfl : u = t := by simpa [hu] using h
  exact hm

/-! ## Every step -/

/-- What every command keeps, and a tick too, every step keeps: the queue of commands has no part in it. -/
theorem step_keeps {P : State → State → Prop} (hpending : ∀ s l t, P { s with pending := l } t → P s t)
    (hqueued : ∀ s l, P s { s with pending := l }) (htick : ∀ s, P s (advanceTick s)) (hmove : ∀ s t, Move s t → P s t)
    {s t : State} (h : step s = .next t) : P s t := by
  unfold step at h
  cases hp : s.pending with
  | cons c rest =>
    rw [hp] at h
    exact hpending s rest t (hmove _ _ (move_of_exec h))
  | nil =>
    rw [hp] at h
    obtain rfl : idle s = t := Host.Outcome.next.inj h
    unfold idle
    split
    · exact hqueued s _
    · exact htick s

end Sys2Proof.Proofs.Moves
end

section
/-! PROOFS. Engine Control: the interrupt causes one by one (R173), what a change of the readback, a settlement and a failure of
LOAD leave of its items, and the statements about causes, refusals and commands that become pending. -/

namespace Sys2Proof.Proofs.EngineControl

open Sys2Proof Sys2Proof.Machine

/-! ## Causes -/

/-- R177: the six causes stand at six different bits. -/
theorem bit_inj {j k : Cause} : j.bit = k.bit ↔ j = k := by
  cases j <;> cases k <;> decide

/-- R177: every bit of CAUSE is one of the six causes. -/
theorem bit_lt (k : Cause) : k.bit < 6 := by cases k <;> decide

/-- R173: a cause raised sets its flag and no other. -/
@[simp] theorem raise_has (c : Control) (j k : Cause) : (c.raise k).has j = (c.has j || decide (j = k)) := by
  have h := bit_lt j
  simp [Control.raise, Control.has, Cause.flag, h, bit_inj]

@[simp] theorem raiseIf_has (c : Control) (b : Bool) (j k : Cause) :
    (c.raiseIf b k).has j = (c.has j || (b && decide (j = k))) := by
  cases b <;> simp [Control.raiseIf]

@[simp] theorem raise_engine (c : Control) (k : Cause) : (c.raise k).engine = c.engine := rfl
@[simp] theorem raise_pending (c : Control) (k : Cause) : (c.raise k).pending = c.pending := rfl
@[simp] theorem raise_readback (c : Control) (k : Cause) : (c.raise k).readback = c.readback := rfl
@[simp] theorem raise_stage (c : Control) (k : Cause) : (c.raise k).stage = c.stage := rfl
@[simp] theorem raise_setup (c : Control) (k : Cause) : (c.raise k).setup = c.setup := rfl
@[simp] theorem raise_loading (c : Control) (k : Cause) : (c.raise k).loading = c.loading := rfl
@[simp] theorem raise_xbase (c : Control) (k : Cause) : (c.raise k).xbase = c.xbase := rfl
@[simp] theorem raise_mask (c : Control) (k : Cause) : (c.raise k).mask = c.mask := rfl

@[simp] theorem raiseIf_false (c : Control) (k : Cause) : c.raiseIf false k = c := rfl
@[simp] theorem raiseIf_true (c : Control) (k : Cause) : c.raiseIf true k = c.raise k := rfl
@[simp] theorem raiseIf_engine (c : Control) (b : Bool) (k : Cause) : (c.raiseIf b k).engine = c.engine := by
  cases b <;> rfl
@[simp] theorem raiseIf_pending (c : Control) (b : Bool) (k : Cause) : (c.raiseIf b k).pending = c.pending := by
  cases b <;> rfl
@[simp] theorem raiseIf_readback (c : Control) (b : Bool) (k : Cause) : (c.raiseIf b k).readback = c.readback := by
  cases b <;> rfl
@[simp] theorem raiseIf_stage (c : Control) (b : Bool) (k : Cause) : (c.raiseIf b k).stage = c.stage := by
  cases b <;> rfl
@[simp] theorem raiseIf_loading (c : Control) (b : Bool) (k : Cause) : (c.raiseIf b k).loading = c.loading := by
  cases b <;> rfl
@[simp] theorem raiseIf_xbase (c : Control) (b : Bool) (k : Cause) : (c.raiseIf b k).xbase = c.xbase := by
  cases b <;> rfl
@[simp] theorem raiseIf_mask (c : Control) (b : Bool) (k : Cause) : (c.raiseIf b k).mask = c.mask := by
  cases b <;> rfl

/-! ## A change of the readback -/

@[simp] theorem readbackIs_engine (c : Control) (l : Byte) (o : CmdOutcome) (r : CmdReason) (p : PlanDetail) :
    (c.readbackIs l o r p).engine = c.engine := rfl
@[simp] theorem readbackIs_pending (c : Control) (l : Byte) (o : CmdOutcome) (r : CmdReason) (p : PlanDetail) :
    (c.readbackIs l o r p).pending = c.pending := rfl
@[simp] theorem readbackIs_readback (c : Control) (l : Byte) (o : CmdOutcome) (r : CmdReason) (p : PlanDetail) :
    (c.readbackIs l o r p).readback = { last := l, outcome := o, reason := r, planReason := p } := rfl
@[simp] theorem readbackIs_stage (c : Control) (l : Byte) (o : CmdOutcome) (r : CmdReason) (p : PlanDetail) :
    (c.readbackIs l o r p).stage = c.stage := rfl
@[simp] theorem readbackIs_setup (c : Control) (l : Byte) (o : CmdOutcome) (r : CmdReason) (p : PlanDetail) :
    (c.readbackIs l o r p).setup = c.setup := rfl
@[simp] theorem readbackIs_loading (c : Control) (l : Byte) (o : CmdOutcome) (r : CmdReason) (p : PlanDetail) :
    (c.readbackIs l o r p).loading = c.loading := rfl
@[simp] theorem readbackIs_xbase (c : Control) (l : Byte) (o : CmdOutcome) (r : CmdReason) (p : PlanDetail) :
    (c.readbackIs l o r p).xbase = c.xbase := rfl
@[simp] theorem readbackIs_mask (c : Control) (l : Byte) (o : CmdOutcome) (r : CmdReason) (p : PlanDetail) :
    (c.readbackIs l o r p).mask = c.mask := rfl
@[simp] theorem readbackIs_has (c : Control) (l : Byte) (o : CmdOutcome) (r : CmdReason) (p : PlanDetail) (j : Cause) :
    (c.readbackIs l o r p).has j = (c.has j || decide (j = .command)) := raise_has _ j .command
theorem readbackIs_cause (c : Control) (l : Byte) (o : CmdOutcome) (r : CmdReason) (p : PlanDetail) :
    (c.readbackIs l o r p).cause = c.cause ||| 0b010000#6 := rfl

@[simp] theorem refuse_engine (c : Control) (l : Byte) (o : CmdOutcome) : (c.refuse l o).engine = c.engine := rfl
@[simp] theorem refuse_pending (c : Control) (l : Byte) (o : CmdOutcome) : (c.refuse l o).pending = c.pending := rfl
@[simp] theorem refuse_xbase (c : Control) (l : Byte) (o : CmdOutcome) : (c.refuse l o).xbase = c.xbase := rfl
@[simp] theorem refuse_readback (c : Control) (l : Byte) (o : CmdOutcome) :
    (c.refuse l o).readback = { last := l, outcome := o, reason := .none, planReason := .none } := rfl

/-! ## A settlement (R154, R159, R170) -/

@[simp] theorem settled_engine (c : Control) (r : Settlement) : (c.settled r).engine = r.engine := by
  simp [Control.settled]

@[simp] theorem settled_pending (c : Control) (r : Settlement) :
    (c.settled r).pending = if r.ended = none then c.pending else .none := by
  cases h : r.ended <;> simp [Control.settled, h]

@[simp] theorem settled_setup (c : Control) (r : Settlement) : (c.settled r).setup = c.setup := by
  cases h : r.ended <;> simp [Control.settled, h]

@[simp] theorem settled_xbase (c : Control) (r : Settlement) : (c.settled r).xbase = c.xbase := by
  cases h : r.ended <;> simp [Control.settled, h]

@[simp] theorem settled_mask (c : Control) (r : Settlement) : (c.settled r).mask = c.mask := by
  cases h : r.ended <;> simp [Control.settled, h]

/-- A change of the engine state leaves the causes. -/
@[simp] theorem has_withEngine (c : Control) (e : EngineState) (j : Cause) :
    ({ c with engine := e } : Control).has j = c.has j := rfl

/-- A change of the pending command leaves the causes. -/
@[simp] theorem has_withPending (c : Control) (p : PendingCommand) (j : Cause) :
    ({ c with pending := p } : Control).has j = c.has j := rfl

@[simp] theorem settled_has (c : Control) (r : Settlement) (j : Cause) :
    (c.settled r).has j =
      (c.has j || (r.ended.isSome && decide (j = .command)) || (decide (r.cause = some .health) && decide (j = .health))) := by
  unfold Control.settled
  rw [raiseIf_has, has_withEngine]
  cases r.ended with
  | none => simp
  | some o =>
    dsimp only
    rw [has_withPending, readbackIs_has]
    simp

/-! ## Statements -/

/-- R173: the flags of a six-bit word, read bit by bit. -/
theorem ne_zero_iff_getLsbD (x : BitVec 6) : x ≠ 0 ↔ ∃ i, i < 6 ∧ x.getLsbD i = true := by
  constructor
  · intro h
    by_contra hn
    push Not at hn
    exact h (BitVec.eq_of_getLsbD_eq fun i hi => by simpa using hn i hi)
  · rintro ⟨i, _, hx⟩ rfl
    simp at hx

/-- Settles O18: each write is a bitwise operation on the register, read bit by bit. -/
theorem causeMaskAndIrq : Obligations.CauseMaskAndIrq := by
  refine ⟨fun w s => ⟨_, rfl, fun i hi => ?cause, rfl⟩, fun w s => ⟨_, rfl, fun i hi => ?mask, rfl⟩, fun s => ?irq⟩
  case cause =>
    show (s.control.cause &&& ~~~(w.setWidth 6)).getLsbD i = _
    simp [hi]
  case mask =>
    show (w.setWidth 6).getLsbD i = _
    simp [hi]
  case irq =>
    have h := ne_zero_iff_getLsbD (s.control.cause &&& s.control.mask)
    simpa [State.irq] using h

/-- R158: what a refusal leaves is the refused state. -/
theorem refused_eq (s : State) (code : Byte) (outcome : CmdOutcome) :
    { s with control := s.control.refuse code outcome } = s.refused code outcome := rfl

/-- R158, test 3. -/
theorem judgeCommand_of_busy {s : State} (h : s.control.pending ≠ .none) (code : Byte) (accepted : Bool)
    (taken : State → State) : judgeCommand code accepted taken s = s.refused code .refusedBusy := by
  simp [judgeCommand, h, refused_eq]

/-- R158, test 4. -/
theorem judgeCommand_of_unaccepted {s : State} (h : s.control.pending = .none) (code : Byte) (taken : State → State) :
    judgeCommand code false taken s = s.refused code .refusedState := by
  simp [judgeCommand, h, refused_eq]

/-- R158: a command that the state accepts is taken. -/
theorem judgeCommand_of_accepted {s : State} (h : s.control.pending = .none) (code : Byte) (taken : State → State) :
    judgeCommand code true taken s = taken s := by
  simp [judgeCommand, h]

/-- R158, R177: a word that names no command. -/
theorem cmdWritten_of_unknown {w : Word} (h : (Instr.unknownCommandCode w).wellFormed = true) (s : State) :
    cmdWritten w s = codeRefused (w.setWidth 8) s := by
  have h : (w.setWidth 8).toNat = 0 ∨ 6 < (w.setWidth 8).toNat := by
    have h : namesCommand w = false := by simpa [Instr.wellFormed] using h
    by_contra hn
    push Not at hn
    have hpos : 1 ≤ (w.setWidth 8).toNat := Nat.one_le_iff_ne_zero.mpr hn.1
    simp [namesCommand, -BitVec.toNat_setWidth, hpos, hn.2] at h
  unfold cmdWritten
  split <;> [omega; omega; omega; omega; omega; omega; rfl]

/-- Settles O9: each refusal is one of the tests of `judgeCommand`, or the default of a word written to CMD. -/
theorem refusedCommandChangesOnlyTheReadback : Obligations.RefusedCommandChangesOnlyTheReadback := by
  refine ⟨fun w s h => ?unknown, fun s h => ?busy, fun s h => ?state⟩
  case unknown => exact congrArg Host.Outcome.next (cmdWritten_of_unknown h s)
  case busy =>
    have hbusy := fun (code : Byte) accepted taken => congrArg (Host.Outcome.next (φ := Fault) (ρ := Refusal))
      (judgeCommand_of_busy h code accepted taken)
    exact ⟨hbusy _ _ _, hbusy _ _ _, hbusy _ _ _, hbusy _ _ _, hbusy _ _ _⟩
  case state =>
    have hstate : ∀ (code : Byte) {accepted : Bool} (taken : State → State), accepted = false →
        (Host.Outcome.next (judgeCommand code accepted taken s) : Host.Outcome State Fault Refusal)
          = .next (s.refused code .refusedState) := by
      rintro code _ taken rfl
      rw [judgeCommand_of_unaccepted h]
    refine ⟨fun he => hstate _ _ (by simpa using he), fun he => hstate _ _ (by simpa using he),
      fun he => hstate _ _ (by simpa [acceptsStop, and_assoc] using he), fun he => hstate _ _ ?resume,
      fun he => hstate _ _ (by simpa [acceptsClear] using he)⟩
    case resume =>
      obtain he | he := he
      · simp [acceptsResume, he]
      · simp [acceptsResume, he]

/-- Settles O13: a command that is accepted and becomes pending sets Engine Control alone. -/
theorem stopAndResumeBecomePending : Obligations.StopAndResumeBecomePending := by
  refine ⟨fun s he hp => ?stop, fun s he hp hq => ?resume⟩
  case stop =>
    have haccepts : acceptsStop s.control.engine = true := by
      obtain he | he := he <;> simp [acceptsStop, he]
    have hwait : s.control.engine ≠ .syncWait := by
      obtain he | he := he <;> simp [he]
    have hpends : takeStop s = stopPends s := if_neg hwait
    refine congrArg Host.Outcome.next ?_
    rw [stopWritten, haccepts, judgeCommand_of_accepted hp, hpends]
    rfl
  case resume =>
    have haccepts : acceptsResume s = true := by simp [acceptsResume, he, hq]
    refine congrArg Host.Outcome.next ?_
    rw [resumeWritten, haccepts, judgeCommand_of_accepted hp, takeResume, Control.accepted, ← he]
    rfl

end Sys2Proof.Proofs.EngineControl
end

section
/-! PROOFS. The spot windows' reports (R29, R103): what a list of reports makes of the entries of the Spot Queue, entry by entry,
and when this is what the statements call `Queue.Reported`. -/

namespace Sys2Proof.Proofs.WindowReports

open Sys2Proof Sys2Proof.Machine

/-! ## Reports, entry by entry -/

/-- An entry with its captures made. -/
def withCaptures (n : Nat) (e : Entry) : Entry := { e with result := { e.result with captures := n } }

@[simp] theorem withCaptures_board (n : Nat) (e : Entry) : (withCaptures n e).board = e.board := rfl
@[simp] theorem withCaptures_captures (n : Nat) (e : Entry) : (withCaptures n e).result.captures = n := rfl
@[simp] theorem withCaptures_withCaptures (n m : Nat) (e : Entry) : withCaptures n (withCaptures m e) = withCaptures n e := rfl
@[simp] theorem withCaptures_self (e : Entry) : withCaptures e.result.captures e = e := rfl

/-- The captures made that one report leaves for a board index. -/
def reportFor (board n : Nat) : Option (Nat × Nat) → Nat
  | some (b, made) => if board = b then made else n
  | none => n

/-- The captures made that a list of reports leaves for a board index: those of the last one for it. -/
def reportsFor (board n : Nat) (rs : List (Option (Nat × Nat))) : Nat := rs.foldl (reportFor board) n

/-- R29: one report gives the entry of its board index its captures made. -/
theorem report_entries (q : Queue) (r : Option (Nat × Nat)) :
    (q.report r).entries = q.entries.map fun e => withCaptures (reportFor e.board e.result.captures r) e := by
  cases r with
  | none => simp [Queue.report, reportFor]
  | some p =>
    refine List.map_congr_left fun e _ => ?_
    by_cases hb : e.board = p.1 <;> simp [reportFor, withCaptures, hb]

/-- R29: a list of reports, taken in order. -/
theorem reports_entries (q : Queue) (rs : List (Option (Nat × Nat))) :
    (q.reports rs).entries = q.entries.map fun e => withCaptures (reportsFor e.board e.result.captures rs) e := by
  induction rs generalizing q with
  | nil => simp [Queue.reports, reportsFor]
  | cons r rs ih =>
    calc ((q.report r).reports rs).entries
        = (q.report r).entries.map fun e => withCaptures (reportsFor e.board e.result.captures rs) e := ih (q.report r)
      _ = q.entries.map fun e => withCaptures (reportsFor e.board e.result.captures (r :: rs)) e := by
        rw [report_entries, List.map_map]
        rfl

/-- With no report for a board index its captures made stay. -/
theorem reportsFor_of_forall {board n : Nat} {rs : List (Option (Nat × Nat))} (h : ∀ m, some (board, m) ∉ rs) :
    reportsFor board n rs = n := by
  induction rs generalizing n with
  | nil => rfl
  | cons r rs ih =>
    have hr : reportFor board n r = n := by
      cases r with
      | none => rfl
      | some p =>
        refine if_neg fun hb => h p.2 ?_
        rw [hb]
        exact List.mem_cons_self
    have hrest := ih (n := n) fun m hm => h m (List.mem_cons_of_mem r hm)
    rw [reportsFor, List.foldl_cons, hr]
    exact hrest

/-- When every report for a board index says the same, that is what is left. -/
theorem reportsFor_of_mem {board n m : Nat} {rs : List (Option (Nat × Nat))} (h : some (board, m) ∈ rs)
    (same : ∀ k, some (board, k) ∈ rs → k = m) : reportsFor board n rs = m := by
  induction rs generalizing n with
  | nil => exact absurd h List.not_mem_nil
  | cons r rs ih =>
    rw [reportsFor, List.foldl_cons]
    by_cases hrest : some (board, m) ∈ rs
    · exact ih hrest fun k hk => same k (List.mem_cons_of_mem r hk)
    · obtain rfl : r = some (board, m) := ((List.mem_cons.mp h).resolve_right hrest).symm
      have hnone : ∀ k, some (board, k) ∉ rs := fun k hk => hrest (same k (List.mem_cons_of_mem _ hk) ▸ hk)
      calc reportsFor board (reportFor board n (some (board, m))) rs
          = reportFor board n (some (board, m)) := reportsFor_of_forall hnone
        _ = m := if_pos rfl

/-- The reports of lines, one for each, are what the statements call the entries reported. -/
theorem reported_of_lines {q : Queue} {f : Line → Option (Nat × Nat)} {ls : List Line}
    {reports : Line → Nat → Nat → Prop}
    (h : ∀ l board made, reports l board made ↔ l ∈ ls ∧ f l = some (board, made)) :
    q.Reported (q.reports (ls.map f)).entries reports := by
  refine ⟨fun e => reportsFor e.board e.result.captures (ls.map f), reports_entries q _, fun e => ⟨fun hnone => ?_, ?_⟩⟩
  · refine reportsFor_of_forall fun m hm => ?_
    obtain ⟨l, hl, hf⟩ := List.mem_map.mp hm
    exact hnone l m ((h l e.board m).mpr ⟨hl, hf⟩)
  · intro l made hmade honly
    obtain ⟨hl, hf⟩ := (h l e.board made).mp hmade
    refine reportsFor_of_mem (List.mem_map.mpr ⟨l, hl, hf⟩) fun k hk => ?_
    obtain ⟨j, hj, hfj⟩ := List.mem_map.mp hk
    obtain rfl := honly j k ((h j e.board k).mpr ⟨hj, hfj⟩)
    rw [hf] at hfj
    exact (congrArg Prod.snd (Option.some.inj hfj)).symm

/-! ## Windows -/

/-- R29: which window reports what. -/
theorem report_eq_some {w : Window} {board made : Nat} :
    w.report = some (board, made) ↔ (∃ tag, w.source = .spot board tag) ∧ made = w.made := by
  unfold Window.report
  cases w.source with
  | spot b t => simp [eq_comm]
  | static a b => simp

/-- R29: the report of the window of a line. -/
theorem windowReport_eq_some {o : Option Window} {board made : Nat} :
    o.bind Window.report = some (board, made) ↔ ∃ w tag, o = some w ∧ w.source = .spot board tag ∧ made = w.made := by
  constructor
  · intro h
    obtain ⟨w, ho, hr⟩ := Option.bind_eq_some_iff.mp h
    obtain ⟨⟨tag, ht⟩, hm⟩ := report_eq_some.mp hr
    exact ⟨w, tag, ho, ht, hm⟩
  · rintro ⟨w, tag, rfl, ht, hm⟩
    exact report_eq_some.mpr ⟨⟨tag, ht⟩, hm⟩

/-- R29: at a frame end every open spot window reports. -/
theorem windowsReport (s : State) : s.WindowsReport (s.queue.reports (windowReports s.cells fun _ => true)).entries := by
  refine reported_of_lines fun l board made => ?_
  rw [windowReport_eq_some]
  simp [mem_allLines]

end Sys2Proof.Proofs.WindowReports
end

section
/-! PROOFS. The memory port (R140, R141): which requester is granted, what stands at the port before and after a grant, and that
a request that waits is granted or goes on waiting. -/

namespace Sys2Proof.Proofs.PortGrants

open Sys2Proof Sys2Proof.Machine

/-! ## The priority order -/

/-- R141: the requester chosen satisfies the test, and no requester of higher priority does. -/
theorem firstOf_eq_some {p : Requester → Bool} {q : Requester} :
    firstOf p = some q ↔ p q = true ∧ ∀ r, requesterRank r < requesterRank q → p r = false := by
  have hranks : (∀ r, requesterRank r < requesterRank q → p r = false) ↔
      match q with
      | .service => True
      | .writer => p .service = false
      | .loader => p .service = false ∧ p .writer = false := by
    cases q with
    | service => simp [requesterRank]
    | writer => exact ⟨fun h => h .service (by decide), fun h r hr => by cases r <;> simp_all [requesterRank]⟩
    | loader =>
      exact ⟨fun h => ⟨h .service (by decide), h .writer (by decide)⟩,
        fun h r hr => by cases r <;> simp_all [requesterRank]⟩
  rw [hranks]
  unfold firstOf
  cases q <;> cases p .service <;> cases p .writer <;> cases p .loader <;> simp

/-- R141: no requester is chosen when none satisfies the test. -/
theorem firstOf_eq_none {p : Requester → Bool} : firstOf p = none ↔ ∀ q, p q = false := by
  unfold firstOf
  constructor
  · intro h q
    cases hs : p .service <;> cases hw : p .writer <;> cases hl : p .loader <;> simp [hs, hw, hl] at h
    cases q <;> assumption
  · intro h
    simp [h]

/-- A requester that waits. -/
theorem isWaiting_iff {p : Port} {q : Requester} : p.isWaiting q = true ↔ ∃ w, p.waiting q = some w := by
  simp [Port.isWaiting, Option.isSome_iff_exists]

/-- A requester that does not wait. -/
theorem isWaiting_eq_false {p : Port} {q : Requester} : p.isWaiting q = false ↔ p.waiting q = none := by
  simp [Port.isWaiting]

/-- The requester the port grants. -/
theorem top_eq_some {p : Port} {q : Requester} (h : p.top = some q) :
    (∃ w, p.waiting q = some w) ∧ ∀ r, requesterRank r < requesterRank q → p.waiting r = none := by
  obtain ⟨hq, hr⟩ := firstOf_eq_some.mp h
  exact ⟨isWaiting_iff.mp hq, fun r hlt => isWaiting_eq_false.mp (hr r hlt)⟩

theorem top_eq_none {p : Port} : p.top = none ↔ ∀ q, p.waiting q = none := by
  simp [Port.top, firstOf_eq_none, isWaiting_eq_false]

/-- When at most one request waits, every requester that waits is the one that is granted. -/
theorem top_of_count {p : Port} (h : p.waitingCount ≤ 1) {q r : Requester} (hq : p.top = some q) {w : Waiting}
    (hr : p.waiting r = some w) : r = q := by
  obtain ⟨⟨v, hv⟩, -⟩ := top_eq_some hq
  cases hs : p.service <;> cases hw : p.writer <;> cases hl : p.loader <;>
    simp only [Port.waitingCount, hs, hw, hl, Option.isSome_some, Option.isSome_none, if_true, if_false,
      Bool.false_eq_true] at h <;>
    cases q <;> cases r <;> simp_all [Port.waiting]

/-- R141: the requester granted at the end of a transfer waits, and none that was judged has a higher priority. -/
theorem chosen_eq_some {before after : Port} {n : Nat} {q : Requester} (h : chosen before after n = some q) :
    (∃ w, after.waiting q = some w)
      ∧ ∀ r, before.waiting r ≠ none → after.waiting r ≠ none → requesterRank q ≤ requesterRank r := by
  unfold chosen at h
  split at h
  · next hcount =>
    refine ⟨(top_eq_some h).1, fun r _ hr => ?_⟩
    obtain ⟨w, hw⟩ := Option.ne_none_iff_exists'.mp hr
    rw [top_of_count hcount h hw]
  · split at h
    · next q' hfirst =>
      obtain rfl : q' = q := Option.some.inj h
      obtain ⟨hq, hr⟩ := firstOf_eq_some.mp hfirst
      refine ⟨isWaiting_iff.mp (Bool.and_eq_true _ _ ▸ hq : _ ∧ _).1, fun r hb ha => ?_⟩
      by_contra hlt
      have hfalse := hr r (Nat.lt_of_not_le hlt)
      have hb : before.isWaiting r = true := isWaiting_iff.mpr (Option.ne_none_iff_exists'.mp hb)
      have ha : after.isWaiting r = true := isWaiting_iff.mpr (Option.ne_none_iff_exists'.mp ha)
      simp [judged, hb, ha] at hfalse
    · next hfirst =>
      refine ⟨(top_eq_some h).1, fun r hb ha => ?_⟩
      have hfalse := firstOf_eq_none.mp hfirst r
      have hb : before.isWaiting r = true := isWaiting_iff.mpr (Option.ne_none_iff_exists'.mp hb)
      have ha : after.isWaiting r = true := isWaiting_iff.mpr (Option.ne_none_iff_exists'.mp ha)
      simp [judged, hb, ha] at hfalse

/-- R141: at the end of a transfer something is granted unless nothing waits. -/
theorem chosen_eq_none {before after : Port} {n : Nat} (h : chosen before after n = none) (q : Requester) :
    after.waiting q = none := by
  unfold chosen at h
  split at h
  · exact top_eq_none.mp h q
  · split at h
    · exact absurd h (by simp)
    · exact top_eq_none.mp h q

/-! ## What a grant can do -/

/-- R141: the port grants nothing while it is busy or nothing waits; else it grants the waiting requester of highest
priority. -/
theorem grantFree_cases (s : State) :
    (s.port.outstanding ≠ none ∧ grantFree s = s)
      ∨ (s.port.outstanding = none ∧ (∀ q, s.port.waiting q = none) ∧ grantFree s = s)
      ∨ ∃ q w, s.port.outstanding = none ∧ s.port.waiting q = some w
        ∧ (∀ r, requesterRank r < requesterRank q → s.port.waiting r = none) ∧ grantFree s = grantTo q s := by
  unfold grantFree
  cases ho : s.port.outstanding with
  | some x => exact .inl (by simp)
  | none =>
    cases ht : s.port.top with
    | none => exact .inr (.inl ⟨rfl, top_eq_none.mp ht, by simp⟩)
    | some q =>
      obtain ⟨⟨w, hw⟩, hr⟩ := top_eq_some ht
      exact .inr (.inr ⟨q, w, rfl, hw, hr, by simp⟩)

/-- R141: the grant at the end of a transfer. -/
theorem grantAtEnd_cases (before : Port) (s : State) :
    ((∀ q, s.port.waiting q = none) ∧ grantAtEnd before s = { s with choices := s.choices + 1 })
      ∨ ∃ q w, s.port.waiting q = some w
        ∧ (∀ r, before.waiting r ≠ none → s.port.waiting r ≠ none → requesterRank q ≤ requesterRank r)
        ∧ grantAtEnd before s = grantTo q { s with choices := s.choices + 1 } := by
  unfold grantAtEnd
  cases hc : chosen before s.port s.choices with
  | none => exact .inl ⟨chosen_eq_none hc, rfl⟩
  | some q =>
    obtain ⟨⟨w, hw⟩, hr⟩ := chosen_eq_some hc
    exact .inr ⟨q, w, hw, hr, rfl⟩

/-! ## The port after a grant -/

/-- R141: the requester granted waits no longer, and the others go on waiting. -/
theorem issue_waiting_eq (p : Port) (q r : Requester) (w : Waiting) (d : List Byte) (now : Nat) :
    (p.issue q w d now).waiting r = if r = q then none else p.waiting r := by
  cases q <;> cases r <;> rfl

/-- R141: a requester that does not wait does not wait after a grant. -/
theorem grantTo_waiting_none {q r : Requester} {s : State} (h : s.port.waiting r = none) :
    (grantTo q s).port.waiting r = none := by
  cases hq : s.port.waiting q with
  | none => rw [grantTo_of_idle hq]; exact h
  | some w =>
    rw [grantTo_of_waiting hq]
    simp [issue_waiting_eq, h]

theorem grantFree_waiting_none {r : Requester} {s : State} (h : s.port.waiting r = none) :
    (grantFree s).port.waiting r = none := by
  obtain ⟨_, e⟩ | ⟨_, _, e⟩ | ⟨q, w, _, _, _, e⟩ := grantFree_cases s
  · rw [e]; exact h
  · rw [e]; exact h
  · rw [e]; exact grantTo_waiting_none h

theorem grantAtEnd_waiting_none {b : Port} {r : Requester} {s : State} (h : s.port.waiting r = none) :
    (grantAtEnd b s).port.waiting r = none := by
  obtain ⟨_, e⟩ | ⟨q, w, _, _, e⟩ := grantAtEnd_cases b s
  · rw [e]; exact h
  · rw [e]; exact grantTo_waiting_none (s := { s with choices := s.choices + 1 }) h

/-- R142: one transfer at a time: while one is outstanding it goes on. -/
theorem grantFree_outstanding {s : State} {x : Transfer} (h : s.port.outstanding = some x) :
    (grantFree s).port.outstanding = some x := by
  rw [grantFree_of_busy (by simp [h]), h]

/-- While a transfer is outstanding the port's requests wait. -/
theorem grantFree_port_of_busy {s : State} (h : s.port.outstanding ≠ none) : (grantFree s).port = s.port := by
  rw [grantFree_of_busy (Option.isSome_iff_ne_none.mpr h)]

/-! ## The writer's request -/

/-- R117: whether the writer asks, in the words of its items. -/
theorem writerWants_iff (s : State) : writerWants s = true ↔
    s.writer.enabled = true ∧ s.staging.records ≠ [] ∧ s.port.writerBusy = false
      ∧ s.writer.unreleased < s.writer.size.toNat := by
  simp [writerWants, and_assoc]

/-- R117: the writer's request is made when it wants one. -/
theorem pollWriter_port_of_wants {s : State} (h : writerWants s = true) : (pollWriter s).port =
    { s.port with writer := some { kind := .journalWrite, address := s.writer.slotAddr, length := 32 } } := by
  simp [pollWriter, h, Port.request]

theorem pollWriter_port_of_idle {s : State} (h : writerWants s = false) : (pollWriter s).port = s.port := by
  simp [pollWriter, h]

/-- R117: the writer asks only while no write of its own waits. -/
theorem writerWants_waiting {s : State} (h : writerWants s = true) : s.port.writer = none := by
  obtain ⟨_, _, hbusy, _⟩ := (writerWants_iff s).mp h
  simpa [Port.writerBusy] using (Bool.or_eq_false_iff.mp hbusy).1

/-- A request that waits goes on waiting when the writer makes its own. -/
theorem pollWriter_waiting {r : Requester} {s : State} {w : Waiting} (h : s.port.waiting r = some w) :
    (pollWriter s).port.waiting r = some w := by
  cases hw : writerWants s with
  | false => rw [pollWriter_port_of_idle hw]; exact h
  | true =>
    rw [pollWriter_port_of_wants hw]
    cases r with
    | service => exact h
    | loader => exact h
    | writer => simp [Port.waiting, writerWants_waiting hw] at h

/-- The writer's request is the only one its poll makes. -/
theorem pollWriter_waiting_of_ne {r : Requester} {s : State} (h : r ≠ .writer) :
    (pollWriter s).port.waiting r = s.port.waiting r := by
  cases r with
  | service => exact pollWriter_port_service s
  | loader => exact pollWriter_port_loader s
  | writer => exact absurd rfl h

/-- A disabled writer asks for nothing. -/
theorem pollWriter_of_disabled {s : State} (h : s.writer.enabled = false) : (pollWriter s).port = s.port :=
  pollWriter_port_of_idle (by simp [writerWants, h])

/-! ## After an event that is no end of a transfer -/

theorem settlePort_waiting_none {r : Requester} {s : State} (hr : r ≠ .writer) (h : s.port.waiting r = none) :
    (settlePort s).port.waiting r = none :=
  grantFree_waiting_none ((pollWriter_waiting_of_ne hr).trans h)

theorem settlePort_outstanding {s : State} {x : Transfer} (h : s.port.outstanding = some x) :
    (settlePort s).port.outstanding = some x :=
  grantFree_outstanding ((pollWriter_port_outstanding s).trans h)

theorem settlePort_sameWork (s : State) : s.service.SameWork (settlePort s).service :=
  grantFree_sameWork (pollWriter s)

theorem settlePort_asks {r : Requester} {s : State} {w : Waiting} (h : s.port.waiting r = some w) :
    (settlePort s).Asks r w.kind w.address w.length :=
  grantFree_asks (pollWriter_waiting h)

/-- While a transfer is outstanding no event but the writer's poll moves the requests. -/
theorem settlePort_service_of_busy {s : State} (h : s.port.outstanding ≠ none) :
    (settlePort s).port.service = s.port.service := by
  rw [settlePort, grantFree_port_of_busy (by simpa using h), pollWriter_port_service]

/-- An event after which the port settles keeps its registers and what is outstanding. -/
theorem portGoesOn_settlePort {s t : State} (h : s.PortGoesOn t) : s.PortGoesOn (settlePort t) := by
  obtain ⟨⟨ht, hb⟩, hx⟩ := h
  exact ⟨⟨(settlePort_timeout t).trans ht, (settlePort_busFaults t).trans hb⟩,
    fun x hs => settlePort_outstanding (hx x hs)⟩

theorem portGoesOn_grantFree {s t : State} (h : s.PortGoesOn t) : s.PortGoesOn (grantFree t) := by
  obtain ⟨⟨ht, hb⟩, hx⟩ := h
  exact ⟨⟨(grantFree_timeout t).trans ht, (grantFree_busFaults t).trans hb⟩,
    fun x hs => grantFree_outstanding (hx x hs)⟩

/-- A port that is as it was goes on. -/
theorem portGoesOn_of_eq {s t : State} (h : t.port = s.port) : s.PortGoesOn t := by
  refine ⟨⟨by rw [h], by rw [h]⟩, fun x hx => by rw [h]; exact hx⟩

/-! ## The Service Unit's work -/

/-- The same work, and so on. -/
theorem sameWork_trans {u v w : Service} (h : u.SameWork v) (k : v.SameWork w) : u.SameWork w := by
  obtain ⟨h1, h2, h3, h4, h5, h6, h7, h8, h9, h10, h11, h12⟩ := h
  obtain ⟨k1, k2, k3, k4, k5, k6, k7, k8, k9, k10, k11, k12⟩ := k
  exact ⟨k1.trans h1, k2.trans h2, k3.trans h3, k4.trans h4, k5.trans h5, k6.trans h6, k7.trans h7, k8.trans h8,
    k9.trans h9, k10.trans h10, k11.trans h11, k12.trans h12⟩

/-- The same work but for what issuing a transfer sets. -/
theorem sameWork_eq {v w : Service} (h : v.SameWork w) :
    w = { v with unit := w.unit, serial := w.serial, snapshot := w.snapshot } := by
  obtain ⟨h1, h2, h3, h4, h5, h6, h7, h8, h9, h10, h11, h12⟩ := h
  cases w
  simp_all

end Sys2Proof.Proofs.PortGrants
end

section
/-! PROOFS. Frame ends and frame starts (R2 to R5, R14, R16, R52, R67, R132 to R136, R153, R170): what the ending frame leaves
before its settlement, what follows each settlement, what a frame start makes of every block; and the statements about them. -/

namespace Sys2Proof.Proofs.FrameEnds

open Sys2Proof Sys2Proof.Machine Sys2Proof.Proofs.EngineControl Sys2Proof.Proofs.PortGrants

/-! ## A frame starts -/

/-- R52: a switch exchanges the roles of a bank. -/
theorem switch_switchedTo (b : Bank) : b.SwitchedTo b.switch := by
  cases h : b.state <;> simp [Bank.SwitchedTo, Bank.switch, h, Bank.free]

/-- R67: a PENDING generation belongs to a PENDING bank. -/
theorem pendingGeneration_isSome_iff (s : Store) :
    s.pendingGeneration.isSome = true ↔ s.bank0.state = .pending ∨ s.bank1.state = .pending := by
  unfold Store.pendingGeneration
  by_cases h0 : s.bank0.state = .pending <;> by_cases h1 : s.bank1.state = .pending <;> simp [h0, h1]

/-- R67: when the banks switch (log 12). -/
theorem switches_iff (s : Store) :
    s.switches = true ↔ s.pendingNow = false ∧ (s.bank0.state = .pending ∨ s.bank1.state = .pending) := by
  simp [Store.switches, pendingGeneration_isSome_iff, and_comm]

theorem atFrameStart_of_switches {s : Store} (h : s.switches = true) : s.atFrameStart = s.switch := if_pos h

theorem atFrameStart_of_not_switches {s : Store} (h : s.switches = false) : s.atFrameStart = s := by
  simp [Store.atFrameStart, h]

/-- R2, R4, R5, R10, R12, R16: the Frame Timer after a frame start. -/
@[simp] theorem frameStart_timer (change : Option RecordBody) (returning : Bool) (s : State) :
    (frameStart change returning s).timer =
      s.timer.startFrame (planHeader s.store.atFrameStart.plan).geometry s.control.setup.mode := rfl
@[simp] theorem frameStart_store (change : Option RecordBody) (returning : Bool) (s : State) :
    (frameStart change returning s).store = s.store.atFrameStart := rfl
@[simp] theorem frameStart_static (change : Option RecordBody) (returning : Bool) (s : State) :
    (frameStart change returning s).static = StaticUnit.begin s.timer.nextFrame := rfl
@[simp] theorem frameStart_loader (change : Option RecordBody) (returning : Bool) (s : State) :
    (frameStart change returning s).loader =
      if s.store.switches then s.loader.outcome s.store.atFrameStart.currentGeneration .current .none else s.loader := rfl
@[simp] theorem frameStart_queue (change : Option RecordBody) (returning : Bool) (s : State) :
    (frameStart change returning s).queue =
      if s.store.switches then s.queue.revalidate s.store.atFrameStart.plan else s.queue := rfl
@[simp] theorem frameStart_control (change : Option RecordBody) (returning : Bool) (s : State) :
    (frameStart change returning s).control = s.control.raiseIf s.store.switches .plan := rfl
@[simp] theorem frameStart_staging (change : Option RecordBody) (returning : Bool) (s : State) :
    (frameStart change returning s).staging =
      s.staging.offerAll s.journalWriteOutstanding (frameStartRecords change s.store) (s.timer.nextFrame, 0) := rfl
@[simp] theorem frameStart_cells_get (change : Option RecordBody) (returning : Bool) (s : State) (l : Line) :
    (frameStart change returning s).cells.get l =
      (s.cells.get l).atFrameStart
        (if s.store.switches then some (planSettings s.store.atFrameStart.plan l) else none) returning := by
  simp [frameStart]
@[simp] theorem frameStart_score (change : Option RecordBody) (returning : Bool) (s : State) :
    (frameStart change returning s).health.score = s.health.score := rfl
@[simp] theorem frameStart_overruns (change : Option RecordBody) (returning : Bool) (s : State) :
    (frameStart change returning s).health.overruns = s.health.overruns := rfl
@[simp] theorem frameStart_syncFaults (change : Option RecordBody) (returning : Bool) (s : State) :
    (frameStart change returning s).health.syncFaults = s.health.syncFaults := rfl
@[simp] theorem frameStart_faults (change : Option RecordBody) (returning : Bool) (s : State) :
    (frameStart change returning s).health.faults = .empty := rfl

/-- R105: the queue of a frame start, by its fields. -/
theorem frameStart_queue_eq (change : Option RecordBody) (returning : Bool) (s : State) :
    (frameStart change returning s).queue =
      { s.queue with
        entries := if s.store.switches then s.queue.entries.map (Entry.revalidate s.store.atFrameStart.plan)
          else s.queue.entries } := by
  cases h : s.store.switches <;> simp [h, Queue.revalidate]

/-- R115: how many records a frame start offers. -/
theorem frameStartRecords_length (change : Option RecordBody) (s : Store) :
    (frameStartRecords change s).length = change.toList.length + if s.switches then 1 else 0 := by
  unfold frameStartRecords
  cases s.switches <;> simp

/-- R113: some of the records are lost exactly when 32 places do not hold them. -/
theorem losesSome_eq (st : Staging) (n : Nat) : st.losesSome n = decide (n ≠ 0 ∧ 32 < st.records.length + n) := by
  rw [Bool.eq_iff_iff]
  simp [Staging.losesSome, Config.stagingPlaces]
  exact fun _ => decide_eq_true_iff

/-- R113: what a frame start reports. -/
@[simp] theorem frameStart_faultsNow (change : Option RecordBody) (returning : Bool) (s : State) :
    (frameStart change returning s).health.faultsNow =
      { s.health.faultsNow with
        loss := s.health.faultsNow.loss
          || s.ReportsLoss (change.toList.length + if s.store.switches then 1 else 0) } := by
  have h : (frameStart change returning s).health.faultsNow =
      { s.health.faultsNow with
        loss := s.health.faultsNow.loss || (true && !s.journalWriteOutstanding
          && s.staging.losesSome (frameStartRecords change s.store).length) } := rfl
  rw [h, frameStartRecords_length, losesSome_eq, State.ReportsLoss, Bool.true_and]

/-- A cell at a frame start keeps its window and its running action. -/
@[simp] theorem cell_atFrameStart_window (c : Cell) (new : Option LineSettings) (returning : Bool) :
    (c.atFrameStart new returning).window = c.window := by
  cases new <;> cases returning <;> simp [Cell.atFrameStart, Cell.takeSettings]

@[simp] theorem cell_atFrameStart_running (c : Cell) (new : Option LineSettings) (returning : Bool) :
    (c.atFrameStart new returning).running = c.running := by
  cases new <;> cases returning <;> simp [Cell.atFrameStart, Cell.takeSettings]

/-- R33: a cell takes its entry of the new line table. -/
@[simp] theorem cell_atFrameStart_settings (c : Cell) (new : Option LineSettings) (returning : Bool) :
    (c.atFrameStart new returning).settings = new.getD c.settings := by
  cases new <;> cases returning <;> simp [Cell.atFrameStart, Cell.takeSettings]

/-- R32, R33: a DRIVE line goes to rest at the return to RUNNING, and when it becomes DRIVE. -/
theorem cell_atFrameStart_logical (c : Cell) (new : Option LineSettings) (returning : Bool) :
    (c.atFrameStart new returning).logical =
      if (new.getD c.settings).direction = .drive
          ∧ (returning = true ∨ (new.isSome = true ∧ c.settings.direction ≠ .drive)) then (new.getD c.settings).rest
      else c.logical := by
  cases new with
  | none => cases returning <;> simp [Cell.atFrameStart]
  | some n =>
    by_cases hn : n.direction = .drive <;> cases returning <;> simp [Cell.atFrameStart, Cell.takeSettings, hn]

/-- R26, R33: a line that turns from DRIVE to SENSE has no earlier sample (log 7). -/
theorem cell_atFrameStart_prevSample (c : Cell) (new : Option LineSettings) (returning : Bool) :
    (c.atFrameStart new returning).prevSample =
      if new.isSome = true ∧ (new.getD c.settings).direction = .sense ∧ c.settings.direction = .drive then none
      else c.prevSample := by
  cases new <;> cases returning <;> simp [Cell.atFrameStart, Cell.takeSettings]

/-- The state that a frame starts from has of `s` all that a frame start asks for. -/
structure StartsFrom (s u : State) (last : Nat) : Prop where
  next : u.timer.nextFrame = s.timer.nextFrame
  length : u.timer.lastLength = last
  mode : u.control.setup.mode = s.control.setup.mode
  store : u.store = s.store
  loader : u.loader = s.loader
  staging : u.staging = s.staging
  outstanding : u.port.outstanding = s.port.outstanding
  plan : u.control.has .plan = s.control.has .plan
  reports : u.health.faultsNow = s.health.faultsNow
  cells : ∀ l, ∃ w, u.cells.get l = { s.cells.get l with window := w }

/-- R2 to R5, R16, R32, R33, R52, R53, R67 to R70, R113, R149: the frame that starts. -/
theorem frameStarted_frameStart {s u : State} {last : Nat} (h : StartsFrom s u last) (change : Option RecordBody)
    (returning : Bool) : s.FrameStarted (frameStart change returning u) change returning last where
  timer := by
    rw [frameStart_timer, frameStart_store]
    cases hm : s.control.setup.mode <;> simp [Timer.startFrame, h.next, h.length, h.mode, hm]
  switches := switches_iff s.store
  switched hs := by
    rw [frameStart_store, h.store, atFrameStart_of_switches hs]
    exact ⟨switch_switchedTo _, switch_switchedTo _⟩
  kept hs := by
    rw [frameStart_store, h.store, atFrameStart_of_not_switches hs]
    exact ⟨rfl, rfl⟩
  static := by rw [frameStart_static, h.next]; rfl
  settings l := by
    obtain ⟨w, hw⟩ := h.cells l
    cases hs : s.store.switches <;> simp [h.store, hs, hw]
  levels l := by
    obtain ⟨w, hw⟩ := h.cells l
    cases hs : s.store.switches <;> simp [h.store, hs, hw, cell_atFrameStart_logical]
  planStatus := by rw [frameStart_loader, frameStart_store, h.store, h.loader]; rfl
  running l := by
    obtain ⟨w, hw⟩ := h.cells l
    simp [hw]
  samples l := by
    obtain ⟨w, hw⟩ := h.cells l
    cases hs : s.store.switches <;> simp [h.store, hs, hw, cell_atFrameStart_prevSample]
  planCause := by simp [h.plan, h.store]
  records := by
    rw [frameStart_staging, h.staging, h.next, h.store, State.journalWriteOutstanding, h.outstanding]
    cases hs : s.store.switches <;> simp [frameStartRecords, hs, State.journalWriteOutstanding, h.store]
  losses := by
    rw [frameStart_faultsNow, h.reports, State.ReportsLoss, State.journalWriteOutstanding, h.outstanding, h.staging,
      h.store]
    rfl
  faults := rfl

/-- A frame that has started is not touched by what the port does then. -/
theorem frameStarted_settlePort {s t : State} {change : Option RecordBody} {returning : Bool} {last : Nat}
    (h : s.FrameStarted t change returning last) : s.FrameStarted (settlePort t) change returning last where
  timer := by simpa using h.timer
  switches := h.switches
  switched := by simpa using h.switched
  kept := by simpa using h.kept
  static := by simpa using h.static
  settings := by simpa using h.settings
  levels := by simpa using h.levels
  planStatus := by simpa using h.planStatus
  running := by simpa using h.running
  samples := by simpa using h.samples
  planCause := by simpa using h.planCause
  records := by simpa using h.records
  losses := by simpa using h.losses
  faults := by simpa using h.faults

/-! ## The cut of a pass (R132, R133, R135) -/

/-- R133: whether the unit in hand goes on after a cut. -/
theorem workInHand_iff (s : State) : workInHand s = true ↔ s.CutInHand := by
  unfold workInHand State.CutInHand
  cases s.port.outstanding <;> simp

/-- R133: a pass with its unit in hand goes on as a tail. -/
theorem serviceFrameEnd_of_inHand {s : State} (ha : s.service.activity = .pass) (hc : s.CutInHand) :
    (serviceFrameEnd s).service = { s.service with activity := .tail, owed := false }
      ∧ (serviceFrameEnd s).port = s.port := by
  simp [serviceFrameEnd, ha, (workInHand_iff s).mpr hc]

/-- R133: a pass with nothing in hand ends, and its request is withdrawn. -/
theorem serviceFrameEnd_of_idle {s : State} (ha : s.service.activity = .pass) (hc : ¬ s.CutInHand) :
    (serviceFrameEnd s).service = { s.service with activity := .none, owed := false, unit := .none }
      ∧ (serviceFrameEnd s).port = { s.port with service := none } := by
  have hw : workInHand s = false := Bool.eq_false_iff.mpr fun h => hc ((workInHand_iff s).mp h)
  simp [serviceFrameEnd, ha, hw]

/-- R134: what is no pass goes on. -/
theorem serviceFrameEnd_of_not_pass {s : State} (ha : s.service.activity ≠ .pass) :
    (serviceFrameEnd s).service = { s.service with owed := false } ∧ (serviceFrameEnd s).port = s.port := by
  simp [serviceFrameEnd, ha]

/-- R132 to R134: what a frame end leaves of the Service Unit, whatever it is doing. -/
theorem serviceFrameEnd_service_cases (s : State) :
    (s.service.activity = .pass ∧ s.CutInHand ∧
        (serviceFrameEnd s).service = { s.service with activity := .tail, owed := false }
        ∧ (serviceFrameEnd s).port = s.port)
      ∨ (s.service.activity = .pass ∧ ¬ s.CutInHand ∧
        (serviceFrameEnd s).service = { s.service with activity := .none, owed := false, unit := .none }
        ∧ (serviceFrameEnd s).port = { s.port with service := none })
      ∨ (s.service.activity ≠ .pass ∧ (serviceFrameEnd s).service = { s.service with owed := false }
        ∧ (serviceFrameEnd s).port = s.port) := by
  by_cases ha : s.service.activity = .pass
  · by_cases hc : s.CutInHand
    · exact .inl ⟨ha, hc, serviceFrameEnd_of_inHand ha hc⟩
    · exact .inr (.inl ⟨ha, hc, serviceFrameEnd_of_idle ha hc⟩)
  · exact .inr (.inr ⟨ha, serviceFrameEnd_of_not_pass ha⟩)

@[simp] theorem serviceFrameEnd_outstanding (s : State) :
    (serviceFrameEnd s).port.outstanding = s.port.outstanding := rfl
@[simp] theorem serviceFrameEnd_timeout (s : State) : (serviceFrameEnd s).port.timeout = s.port.timeout := rfl
@[simp] theorem serviceFrameEnd_busFaults (s : State) : (serviceFrameEnd s).port.busFaults = s.port.busFaults := rfl
@[simp] theorem serviceFrameEnd_writer_waiting (s : State) : (serviceFrameEnd s).port.writer = s.port.writer := rfl
@[simp] theorem serviceFrameEnd_loader_waiting (s : State) : (serviceFrameEnd s).port.loader = s.port.loader := rfl
@[simp] theorem serviceFrameEnd_owed (s : State) : (serviceFrameEnd s).service.owed = false := rfl
@[simp] theorem serviceFrameEnd_closingOwed (s : State) :
    (serviceFrameEnd s).service.closingOwed = s.service.closingOwed := rfl
@[simp] theorem serviceFrameEnd_hostControl (s : State) :
    (serviceFrameEnd s).service.hostControl = s.service.hostControl := rfl

/-- R124: the watermark is reached. -/
theorem watermarkReached_eq (w : Writer) : w.watermarkReached =
    decide (w.watermark ≠ 0 ∧ w.watermark.toNat ≤ (w.written - w.released).toNat) := by
  rw [Bool.eq_iff_iff]
  simp [Writer.watermarkReached, Writer.unreleased]
  exact fun _ => decide_eq_true_iff

/-- R124, R132: the causes a frame end raises for a pass that is cut. -/
theorem serviceFrameEnd_control (s : State) : (serviceFrameEnd s).control =
    (s.control.raiseIf (s.service.activity == .pass && s.service.noted) .result).raiseIf
      (s.service.activity == .pass && s.writer.watermarkReached) .journal := rfl

/-! ## The ended frame and its settlement -/

/-- The state in which a frame end leaves the part before a frame starts or the run ends: the frame closed and scored, and the
settlement taken by Engine Control. -/
def endedFrame (missing : Bool) (s : State) : State :=
  let u := scoreFrame (closeFrame missing s)
  { u with control := u.control.settled (s.endingSettlement missing) }

theorem closeFrame_control (missing : Bool) (s : State) :
    (closeFrame missing s).control = (serviceFrameEnd s).control := rfl

/-- R153, R170: the settlement of the scored frame is that of the ending frame. -/
theorem settlement_closeFrame (missing : Bool) (s : State) :
    (scoreFrame (closeFrame missing s)).settlement = s.endingSettlement missing := by
  rw [State.settlement, FrameScore.scoreFrame_closeFrame_score, State.endingSettlement]
  simp [closeFrame_control, serviceFrameEnd_control]

/-- R14: a frame end is what follows the settlement of the ended frame. -/
theorem frameEnd_eq (missing : Bool) (s : State) : frameEnd missing s =
    afterSettlement (s.endingSettlement missing) (s.control.engine == .held) (endedFrame missing s) := by
  have hengine : (scoreFrame (closeFrame missing s)).control.engine = s.control.engine := by
    simp [closeFrame_control, serviceFrameEnd_control]
  rw [frameEnd, settleFrame, settlement_closeFrame, hengine]
  rfl

@[simp] theorem endedFrame_control (missing : Bool) (s : State) :
    (endedFrame missing s).control = (serviceFrameEnd s).control.settled (s.endingSettlement missing) := rfl
@[simp] theorem endedFrame_timer (missing : Bool) (s : State) :
    (endedFrame missing s).timer = { s.timer with lastLength := s.timer.frameTime.getD s.timer.lastLength } := rfl
@[simp] theorem endedFrame_cells_get (missing : Bool) (s : State) (l : Line) :
    (endedFrame missing s).cells.get l = (s.cells.get l).closeWindow :=
  mapCells_get s.cells (fun _ c => c.closeWindow) l
@[simp] theorem endedFrame_store (missing : Bool) (s : State) : (endedFrame missing s).store = s.store := rfl
@[simp] theorem endedFrame_static (missing : Bool) (s : State) : (endedFrame missing s).static = s.static := rfl
@[simp] theorem endedFrame_loader (missing : Bool) (s : State) : (endedFrame missing s).loader = s.loader := rfl
@[simp] theorem endedFrame_queue (missing : Bool) (s : State) : (endedFrame missing s).queue =
    (s.queue.reports (windowReports s.cells fun _ => true)).frameEnd := rfl
@[simp] theorem endedFrame_staging (missing : Bool) (s : State) : (endedFrame missing s).staging = s.staging := rfl
@[simp] theorem endedFrame_writer (missing : Bool) (s : State) : (endedFrame missing s).writer = s.writer := rfl
@[simp] theorem endedFrame_service (missing : Bool) (s : State) :
    (endedFrame missing s).service = (serviceFrameEnd s).service := rfl
@[simp] theorem endedFrame_port (missing : Bool) (s : State) :
    (endedFrame missing s).port = (serviceFrameEnd s).port := rfl
@[simp] theorem endedFrame_score (missing : Bool) (s : State) :
    (endedFrame missing s).health.score = s.endingScore missing := FrameScore.scoreFrame_closeFrame_score missing s
@[simp] theorem endedFrame_outside (missing : Bool) (s : State) : (endedFrame missing s).outside = s.outside := rfl
@[simp] theorem endedFrame_now (missing : Bool) (s : State) : (endedFrame missing s).now = s.now := rfl
@[simp] theorem endedFrame_pending (missing : Bool) (s : State) : (endedFrame missing s).pending = s.pending := rfl

/-- R11, R135, R150: what a frame end counts. -/
theorem endedFrame_health (missing : Bool) (s : State) :
    (endedFrame missing s).health.syncFaults = s.health.syncFaults + (if missing then 1 else 0)
      ∧ (endedFrame missing s).health.overruns =
        s.health.overruns + (if s.service.activity = .pass ∨ s.service.owed = true then 1 else 0)
      ∧ (endedFrame missing s).health.faultsNow = s.health.faultsNow := by
  have h : (endedFrame missing s).health =
      { (closeFrame missing s).health with score := (endedFrame missing s).health.score } := rfl
  rw [h, FrameScore.closeFrame_health]
  by_cases ha : s.service.activity = .pass <;> cases ho : s.service.owed <;> cases missing <;>
    simp [ha, Health.reportSync, Health.reportOverrun]

/-- R14: the queue after the windows of a frame end have reported. -/
theorem endedFrame_queue_eq (missing : Bool) (s : State) : (endedFrame missing s).queue =
    { s.queue with
      entries := (s.queue.reports (windowReports s.cells fun _ => true)).entries, runList := [], action := none } := by
  rw [endedFrame_queue, Queue.frameEnd, reports_eq]

/-- R14: after the settlement the next frame starts. -/
theorem afterSettlement_of_goesOn {r : Settlement} (h : r.engine = .running ∨ r.engine = .held) (wasHeld : Bool)
    (s : State) : afterSettlement r wasHeld s = frameStart r.record (wasHeld && r.engine == .running) s := by
  have hne : (EngineState.held == EngineState.running) = false := rfl
  unfold afterSettlement
  obtain h | h := h <;> simp [h, hne]

theorem afterSettlement_of_armed {r : Settlement} (h : r.engine = .armed) (wasHeld : Bool) (s : State) :
    afterSettlement r wasHeld s = stopCompletes r.record s := by
  simp [afterSettlement, h]

theorem afterSettlement_of_halted {r : Settlement} (h : r.engine = .halted) (wasHeld : Bool) (s : State) :
    afterSettlement r wasHeld s = verdictHalts r.record s := by
  simp [afterSettlement, h]

/-- What follows the settlement raises PLAN at most. -/
theorem afterSettlement_control (r : Settlement) (wasHeld : Bool) (s : State) :
    ∃ b, (afterSettlement r wasHeld s).control = s.control.raiseIf b .plan := by
  unfold afterSettlement
  cases r.engine with
  | running => exact ⟨_, frameStart_control _ _ _⟩
  | held => exact ⟨_, frameStart_control _ _ _⟩
  | armed => exact ⟨false, rfl⟩
  | halted => exact ⟨false, rfl⟩
  | idle => exact ⟨false, rfl⟩
  | loading => exact ⟨false, rfl⟩
  | syncWait => exact ⟨false, rfl⟩

/-- R159, R170: the readback after a settlement. -/
theorem settled_readback (c : Control) (r : Settlement) : (c.settled r).readback =
    r.ended.elim c.readback fun o => { last := c.pending.code, outcome := o, reason := .none, planReason := .none } := by
  unfold Control.settled
  rw [raiseIf_readback]
  cases r.ended <;> rfl

/-! ## The settlement table (R170) and the verdict (R153) -/

/-- R166, R170: a frame end in a run that leaves ARMED completes a STOP. -/
theorem settle_of_armed {e : EngineState} {p : PendingCommand} {v : Verdict} (he : e = .running ∨ e = .held)
    (h : (settle e p v).engine = .armed) :
    p = .stop ∧ settle e p v = { engine := .armed, ended := some .done, cause := some .command } := by
  obtain rfl | rfl := he <;> cases p <;> cases v <;> simp_all [settle]

/-- R154, R170: a frame end in a run that leaves HALTED overrides a pending command. -/
theorem settle_of_halted {e : EngineState} {p : PendingCommand} {v : Verdict} (he : e = .running ∨ e = .held)
    (h : (settle e p v).engine = .halted) :
    (settle e p v).cause = some .health
      ∧ (p = .stop ∨ p = .resume → (settle e p v).ended = some .overridden)
      ∧ (p = .none → (settle e p v).ended = none) := by
  obtain rfl | rfl := he <;> cases p <;> cases v <;> simp_all [settle]

/-- R170: a frame end in a run leaves one of four engine states. -/
theorem settle_engine {e : EngineState} (he : e = .running ∨ e = .held) (p : PendingCommand) (v : Verdict) :
    (settle e p v).engine = .running ∨ (settle e p v).engine = .held ∨ (settle e p v).engine = .armed
      ∨ (settle e p v).engine = .halted := by
  obtain rfl | rfl := he <;> cases p <;> cases v <;> simp [settle]

/-- Settles O30: the verdict is an `if` chain over the three tests. -/
theorem verdictFollowsTheTests : Obligations.VerdictFollowsTheTests := by
  intro u score engine pending haltTest holdTest releaseTest
  refine ⟨fun h => if_pos h, fun h1 h2 => ?hold, fun h1 h2 h3 => ?release, fun h1 h2 h3 => ?none⟩
  case hold => exact (if_neg h1).trans (if_pos h2)
  case release => exact (if_neg h1).trans ((if_neg h2).trans (if_pos h3))
  case none => exact (if_neg h1).trans ((if_neg h2).trans (if_neg h3))

/-- R170: the sample of SYNC_IN has no part in the settlement. -/
theorem sampleSync_endingSettlement (level missing : Bool) (s : State) :
    (sampleSync level s).endingSettlement missing = s.endingSettlement missing := rfl

/-- Settles O29: what follows the settlement leaves the engine state, the pending command and the readback. -/
theorem settlementFollowsTheTable : Obligations.SettlementFollowsTheTable := by
  refine ⟨fun c missing s h _ => ?frameEnds, rfl, rfl, rfl, rfl, rfl, rfl, rfl, rfl, rfl, rfl, rfl, rfl, rfl, rfl, rfl, rfl⟩
  case frameEnds =>
    obtain ⟨u, hu, hexec⟩ := FrameScore.exec_of_frameEndsBy h
    have hsettled : ∃ b, (settlePort (frameEnd missing u)).control =
        ((serviceFrameEnd s).control.settled (s.endingSettlement missing)).raiseIf b .plan := by
      obtain ⟨b, hb⟩ := afterSettlement_control (u.endingSettlement missing) (u.control.engine == .held)
        (endedFrame missing u)
      refine ⟨b, ?_⟩
      rw [settlePort_control, frameEnd_eq, hb]
      obtain rfl | ⟨level, rfl⟩ := hu <;> rfl
    obtain ⟨b, hb⟩ := hsettled
    refine ⟨_, hexec, ?_, ?_, ?_⟩
    · rw [hb]; simp
    · rw [hb]; simp [serviceFrameEnd_control]
    · rw [hb, raiseIf_readback, settled_readback, serviceFrameEnd_control]
      cases (s.endingSettlement missing).ended <;> simp

end Sys2Proof.Proofs.FrameEnds
end

section
/-! PROOFS. The run: how a frame end goes on, completes a STOP or halts (R14, R52, R67, R132 to R136, R170), how the first frame
starts (R8, R13, R165), and what the other edges of SYNC_IN do (R9 to R12). -/

namespace Sys2Proof.Proofs.Runs

open Sys2Proof Sys2Proof.Machine Sys2Proof.Proofs.EngineControl Sys2Proof.Proofs.PortGrants Sys2Proof.Proofs.FrameEnds
open Sys2Proof.Proofs.WindowReports

/-! ## A sample of SYNC_IN -/

/-- Two states that differ in the sample of SYNC_IN and its level outside at most. -/
structure SameButSample (w v : State) : Prop where
  control : v.control = w.control
  timer : v.timer = { w.timer with syncSample := v.timer.syncSample }
  cells : v.cells = w.cells
  store : v.store = w.store
  static : v.static = w.static
  loader : v.loader = w.loader
  queue : v.queue = w.queue
  staging : v.staging = w.staging
  writer : v.writer = w.writer
  service : v.service = w.service
  port : v.port = w.port
  health : v.health = w.health
  now : v.now = w.now
  pending : v.pending = w.pending

/-- R9: the ended frame differs by the sample of its last edge at most. -/
theorem endedFrame_sampled {s u : State} (hu : u = s ∨ ∃ level, u = sampleSync level s) (missing : Bool) :
    SameButSample (endedFrame missing s) (endedFrame missing u) := by
  obtain rfl | ⟨level, rfl⟩ := hu
  · exact ⟨rfl, rfl, rfl, rfl, rfl, rfl, rfl, rfl, rfl, rfl, rfl, rfl, rfl, rfl⟩
  · exact ⟨rfl, rfl, rfl, rfl, rfl, rfl, rfl, rfl, rfl, rfl, rfl, rfl, rfl, rfl⟩

/-- A frame end, whichever command brings it: what follows the settlement of a state that differs from the ended frame by the
sample of the last edge at most. -/
theorem exec_frameEnd {c : Instr} {missing : Bool} {s : State} (h : s.FrameEndsBy c missing) :
    ∃ v, SameButSample (endedFrame missing s) v ∧ exec c s =
      .next (settlePort (afterSettlement (s.endingSettlement missing) (s.control.engine == .held) v)) := by
  obtain ⟨u, hu, hexec⟩ := FrameScore.exec_of_frameEndsBy h
  refine ⟨endedFrame missing u, endedFrame_sampled hu missing, ?_⟩
  rw [hexec, frameEnd_eq]
  obtain rfl | ⟨level, rfl⟩ := hu <;> rfl

/-- A pass's causes are raised and the request of a cut pass with nothing in hand is withdrawn. -/
theorem passCut_of {s t : State} {r : Settlement} {b : Bool}
    (hc : t.control = ((serviceFrameEnd s).control.settled r).raiseIf b .plan)
    (hp : (serviceFrameEnd s).port.service = none → t.port.service = none) : s.PassCut t where
  result := by rw [hc]; simp [serviceFrameEnd_control]
  journal := by rw [hc]; simp [serviceFrameEnd_control, watermarkReached_eq]
  withdrawn ha hcut := hp (by rw [(serviceFrameEnd_of_idle ha hcut).2])

/-- R177: a frame end may raise these five causes. -/
theorem frameEnd_raisesOnly {s : State} {d : Control} {r : Settlement} {b : Bool}
    (hc : d = ((serviceFrameEnd s).control.settled r).raiseIf b .plan) :
    s.control.RaisesOnly d [.command, .health, .plan, .result, .journal] := by
  subst hc
  refine ⟨fun k hk => ?_, by simp [serviceFrameEnd_control], by simp [serviceFrameEnd_control]⟩
  cases k <;> simp [serviceFrameEnd_control] at hk ⊢

/-- R177: with no pass to cut RESULT and JOURNAL are not among them. -/
theorem frameEnd_raisesOnly_of_not_pass {s : State} {d : Control} {r : Settlement} {b : Bool}
    (hc : d = ((serviceFrameEnd s).control.settled r).raiseIf b .plan) (ha : s.service.activity ≠ .pass) :
    s.control.RaisesOnly d [.command, .health, .plan] := by
  subst hc
  refine ⟨fun k hk => ?_, by simp [serviceFrameEnd_control], by simp [serviceFrameEnd_control]⟩
  cases k <;> simp [serviceFrameEnd_control, ha] at hk ⊢

/-- R132 to R134: no pass goes on as such through a frame end. -/
theorem serviceFrameEnd_activity_ne_pass (s : State) : (serviceFrameEnd s).service.activity ≠ .pass := by
  obtain ⟨-, -, e, -⟩ | ⟨-, -, e, -⟩ | ⟨ha, e, -⟩ := serviceFrameEnd_service_cases s <;> rw [e]
  · simp
  · simp
  · exact ha

/-- The state a frame starts from at a frame end. -/
theorem startsFrom_endedFrame {s v : State} {missing : Bool} (hv : SameButSample (endedFrame missing s) v) :
    StartsFrom s v (s.timer.frameTime.getD s.timer.lastLength) where
  next := by rw [hv.timer]; rfl
  length := by rw [hv.timer]; rfl
  mode := by rw [hv.control]; simp [serviceFrameEnd_control]
  store := hv.store
  loader := hv.loader
  staging := hv.staging
  outstanding := by rw [hv.port]; rfl
  plan := by rw [hv.control]; simp [serviceFrameEnd_control]
  reports := by rw [hv.health]; exact (endedFrame_health missing s).2.2
  cells l := ⟨none, by rw [hv.cells, endedFrame_cells_get]; rfl⟩

/-- Settles O25: the frame end is the cut of the pass and the settlement, followed by a frame start. -/
theorem frameEndStartsTheNextFrame : Obligations.FrameEndStartsTheNextFrame := by
  intro c missing s h r hr
  obtain ⟨v, hv, hexec⟩ := exec_frameEnd h
  rw [afterSettlement_of_goesOn hr] at hexec
  let change := r.record
  let returning := s.control.engine == .held && r.engine == .running
  have hcontrol : (settlePort (frameStart change returning v)).control =
      ((serviceFrameEnd s).control.settled r).raiseIf s.store.switches .plan := by
    rw [settlePort_control, frameStart_control, hv.control, hv.store]
    rfl
  have hwork : (serviceFrameEnd s).service.SameWork (settlePort (frameStart change returning v)).service := by
    have hw := settlePort_sameWork (frameStart change returning v)
    rwa [frameStart_service, hv.service] at hw
  have hport : (frameStart change returning v).port = (serviceFrameEnd s).port := hv.port
  have hhealth : (settlePort (frameStart change returning v)).health.score = (endedFrame missing s).health.score
      ∧ (settlePort (frameStart change returning v)).health.syncFaults = (endedFrame missing s).health.syncFaults
      ∧ (settlePort (frameStart change returning v)).health.overruns = (endedFrame missing s).health.overruns := by
    simp [hv.health]
  obtain ⟨hscore, hsync, hover⟩ := hhealth
  obtain ⟨hcsync, hcover, -⟩ := endedFrame_health missing s
  have hactivity := hwork.1
  refine ⟨_, hexec, ?_, ?_, ?readback, ?_, ?_, ?started, ?_, ?_, ?_, ?_, frameEnd_raisesOnly hcontrol, ?_, ?_, ?queue,
    passCut_of hcontrol ?withdrawn, ?tail, ?idle, ?other, ?_, ?_, ?notPass, ?_, ?_, ?goesOn, ?_, ?_⟩
  · rw [hcontrol]; simp
  · rw [hcontrol]; simp [serviceFrameEnd_control]
  case readback =>
    rw [hcontrol, raiseIf_readback, settled_readback, serviceFrameEnd_control]
    cases r.ended <;> simp
  · rw [hcontrol]; simp [serviceFrameEnd_control]
  · rw [hcontrol]; simp [serviceFrameEnd_control]
  case started => exact frameStarted_settlePort (frameStarted_frameStart (startsFrom_endedFrame hv) change returning)
  · rw [hscore, endedFrame_score]
  · rw [hsync, hcsync]
  · rw [hover, hcover]
  · exact fun ha => frameEnd_raisesOnly_of_not_pass hcontrol ha
  · rw [hcontrol]; simp [serviceFrameEnd_control]
  · intro l
    simp [hv.cells, Cell.closeWindow]
  case queue =>
    refine ⟨_, windowsReport s, ?_⟩
    rw [settlePort_queue, frameStart_queue_eq, hv.queue, hv.store, endedFrame_queue_eq, settlePort_store,
      frameStart_store, hv.store]
    rfl
  case withdrawn =>
    intro hnone
    exact settlePort_waiting_none (r := .service) (by decide) ((congrArg Port.service hport).trans hnone)
  case tail => exact fun ha hcut => hactivity.trans (by rw [(serviceFrameEnd_of_inHand ha hcut).1])
  case idle => exact fun ha hcut => hactivity.trans (by rw [(serviceFrameEnd_of_idle ha hcut).1])
  case other => exact fun ha => hactivity.trans (by rw [(serviceFrameEnd_of_not_pass ha).1])
  · obtain ⟨-, -, -, -, -, -, -, -, -, -, -, hclosing⟩ := hwork
    exact hclosing
  · obtain ⟨-, -, -, -, -, -, -, -, -, howed, -, -⟩ := hwork
    exact howed
  case notPass => exact hactivity ▸ serviceFrameEnd_activity_ne_pass s
  · obtain ⟨-, -, -, -, -, -, -, -, hhost, -, -, -⟩ := hwork
    exact hhost
  · simp [hv.writer]
  case goesOn =>
    refine portGoesOn_settlePort ⟨⟨by rw [hport]; rfl, by rw [hport]; rfl⟩, fun x hx => ?_⟩
    rw [hport]
    exact hx
  · simp [hv.now]
  · simp [hv.pending]

/-! ## The run ends -/

@[simp] theorem stopCompletes_timer (change : Option RecordBody) (s : State) :
    (stopCompletes change s).timer = s.timer.noFrame := rfl
@[simp] theorem stopCompletes_cells_get (change : Option RecordBody) (s : State) (l : Line) :
    (stopCompletes change s).cells.get l = (s.cells.get l).toRest :=
  mapCells_get s.cells (fun _ c => c.toRest) l
@[simp] theorem stopCompletes_store (change : Option RecordBody) (s : State) :
    (stopCompletes change s).store = s.store.dropFilling := rfl
@[simp] theorem stopCompletes_static (change : Option RecordBody) (s : State) :
    (stopCompletes change s).static = s.static.deactivate := rfl
@[simp] theorem stopCompletes_loader (change : Option RecordBody) (s : State) :
    (stopCompletes change s).loader = s.loader.abandonAtStop := rfl
@[simp] theorem stopCompletes_queue (change : Option RecordBody) (s : State) :
    (stopCompletes change s).queue = { s.queue with nextFree := 0 } := rfl
@[simp] theorem stopCompletes_staging (change : Option RecordBody) (s : State) : (stopCompletes change s).staging =
    s.staging.offerAll s.journalWriteOutstanding change.toList (s.timer.current, s.timer.lastLength) := rfl
@[simp] theorem stopCompletes_service (change : Option RecordBody) (s : State) :
    (stopCompletes change s).service = s.service.stopped := rfl
@[simp] theorem stopCompletes_score (change : Option RecordBody) (s : State) :
    (stopCompletes change s).health.score = s.health.score := rfl
@[simp] theorem stopCompletes_faults (change : Option RecordBody) (s : State) :
    (stopCompletes change s).health.faults = .empty := rfl

@[simp] theorem verdictHalts_timer (change : Option RecordBody) (s : State) :
    (verdictHalts change s).timer = s.timer.noFrame := rfl
@[simp] theorem verdictHalts_store (change : Option RecordBody) (s : State) :
    (verdictHalts change s).store = s.store.dropFilling := rfl
@[simp] theorem verdictHalts_static (change : Option RecordBody) (s : State) :
    (verdictHalts change s).static = s.static.deactivate := rfl
@[simp] theorem verdictHalts_loader (change : Option RecordBody) (s : State) :
    (verdictHalts change s).loader = s.loader.abandonAtHalt := rfl
@[simp] theorem verdictHalts_queue (change : Option RecordBody) (s : State) :
    (verdictHalts change s).queue = { s.queue with nextFree := 0 } := rfl
@[simp] theorem verdictHalts_service (change : Option RecordBody) (s : State) :
    (verdictHalts change s).service = s.service.verdictHalted := rfl
@[simp] theorem verdictHalts_port (change : Option RecordBody) (s : State) :
    (verdictHalts change s).port = s.port.verdictHalt := rfl
@[simp] theorem verdictHalts_score (change : Option RecordBody) (s : State) :
    (verdictHalts change s).health.score = s.health.score := rfl
@[simp] theorem verdictHalts_faults (change : Option RecordBody) (s : State) :
    (verdictHalts change s).health.faults = .empty := rfl

/-- R147: a HALT verdict leaves the writer's write at the port. -/
theorem verdictHalt_writerOutstanding (p : Port) :
    (p.verdictHalt.outstanding.any fun t => t.requester == .writer && !t.discard)
      = p.outstanding.any fun t => t.requester == .writer && !t.discard := by
  cases ho : p.outstanding with
  | none => simp [Port.verdictHalt, Port.discardIf, ho]
  | some x => cases hq : x.requester <;> simp [Port.verdictHalt, Port.discardIf, ho, hq, bne]

@[simp] theorem verdictHalts_staging (change : Option RecordBody) (s : State) : (verdictHalts change s).staging =
    s.staging.offerAll s.journalWriteOutstanding change.toList (s.timer.current, s.timer.lastLength) :=
  congrArg (fun d => s.staging.offerAll d change.toList (s.timer.current, s.timer.lastLength))
    (verdictHalt_writerOutstanding s.port)

/-- R51: a FILLING bank is dropped, and the other stays. -/
theorem dropFilling_cases (s : Store) :
    (s.bank0.state = .filling → s.dropFilling.bank0 = .free) ∧ (s.bank1.state = .filling → s.dropFilling.bank1 = .free)
      ∧ (s.bank0.state ≠ .filling → s.dropFilling.bank0 = s.bank0)
      ∧ (s.bank1.state ≠ .filling → s.dropFilling.bank1 = s.bank1) := by
  refine ⟨fun h => ?_, fun h => ?_, fun h => ?_, fun h => ?_⟩ <;> simp [Store.dropFilling, Store.onFilling, h]

/-- R136: the Service Unit at a STOP that completes, whatever a frame end left of it. -/
theorem stopped_of_idle {v : Service} (h : v.activity = .none ∨ v.activity = .closingWait) :
    v.stopped.activity = .closingWait := by
  obtain h | h := h <;> simp [Service.stopped, h]

theorem stopped_of_busy {v : Service} (h : v.activity = .tail ∨ v.activity = .statusWrite) :
    v.stopped.activity = v.activity ∧ v.stopped.closingOwed = true := by
  obtain h | h := h <;> simp [Service.stopped, h]

@[simp] theorem stopped_owed (v : Service) : v.stopped.owed = v.owed := by
  unfold Service.stopped; split <;> rfl

@[simp] theorem stopped_hostControl (v : Service) : v.stopped.hostControl = v.hostControl := by
  unfold Service.stopped; split <;> rfl

/-- Settles O26: the settlement of a frame end that leaves ARMED is that of a pending STOP, and the STOP completes. -/
theorem frameEndCompletesStop : Obligations.FrameEndCompletesStop := by
  intro c missing s h r hr he
  obtain ⟨v, hv, hexec⟩ := exec_frameEnd h
  obtain ⟨hstop, hsettle⟩ := settle_of_armed he hr
  have hrec : r = { engine := .armed, ended := some .done, cause := some .command } := hsettle
  have hrecord : r.record = some (.state .armed .command) := by rw [hrec]; rfl
  rw [afterSettlement_of_armed hr, hrecord] at hexec
  let u := stopCompletes (some (.state .armed .command)) v
  have hcontrol : (settlePort u).control = ((serviceFrameEnd s).control.settled r).raiseIf false .plan := by
    rw [settlePort_control, stopCompletes_control, hv.control]
    rfl
  have hservice : u.service = (serviceFrameEnd s).service.stopped := by
    rw [stopCompletes_service, hv.service]
    rfl
  have hwork : (serviceFrameEnd s).service.stopped.SameWork (settlePort u).service := hservice ▸ settlePort_sameWork u
  have hactivity := hwork.1
  obtain ⟨-, -, -, -, -, -, -, -, hhost, howed, -, hclosing⟩ := hwork
  have hport : u.port = (serviceFrameEnd s).port := hv.port
  obtain ⟨hdrop0, hdrop1, hkeep0, hkeep1⟩ := dropFilling_cases s.store
  have hstore : (settlePort u).store = s.store.dropFilling := by
    rw [settlePort_store, stopCompletes_store, hv.store, endedFrame_store]
  have hcells : ∀ l, (settlePort u).cells.get l = (s.cells.get l).closeWindow.toRest := fun l => by
    rw [settlePort_cells, stopCompletes_cells_get, hv.cells, endedFrame_cells_get]
  have htimer : (settlePort u).timer = { s.timer with
      frameTime := none, phase := .none, acceptance := .off, earlySeen := false, syncOut := false
      lastLength := s.timer.frameTime.getD s.timer.lastLength, syncSample := v.timer.syncSample } := by
    rw [settlePort_timer, stopCompletes_timer, hv.timer]
    rfl
  have hjournal : v.journalWriteOutstanding = s.journalWriteOutstanding := by
    rw [State.journalWriteOutstanding, hv.port]
    rfl
  have hqueue : (settlePort u).queue = { s.queue with
      entries := (s.queue.reports (windowReports s.cells fun _ => true)).entries, runList := [], nextFree := 0
      action := none } := by
    rw [settlePort_queue, stopCompletes_queue, hv.queue, endedFrame_queue_eq]
  refine ⟨_, hexec, ?_, ?_, ?readback, ?_, ?_, ?_, ?_, ?_, ?_, ?_, ?_, ?_, ?staging, ?_, ?_, ?_, ?_, ?_, ?_, ?static, ?loader,
    passCut_of hcontrol ?withdrawn, ?rest, ?idle, ?tail, ?busy, ?_, ?_, ?_, ?raises, ?_, ?windows, ?queue, ?_, ?_, ?_,
    ?goesOn, ?_, ?_⟩
  · rw [hcontrol, hrec]; simp
  · rw [hcontrol, hrec]; simp
  case readback =>
    rw [hcontrol, raiseIf_readback, settled_readback, hrec, serviceFrameEnd_control]
    simp [hstop, PendingCommand.code, codeStop]
  · rw [hcontrol, hrec]; simp
  · rw [hcontrol, hrec]; simp [serviceFrameEnd_control]
  · rw [htimer]
  · rw [htimer]
  · rw [htimer]
  · rw [htimer]
  · rw [htimer]
  · rw [htimer]
  · rw [htimer]
  case staging =>
    rw [settlePort_staging, stopCompletes_staging, hjournal, hv.staging, hv.timer]
    rfl
  · intro l; rw [hcells]; simp [Cell.closeWindow]
  · intro l hd; rw [hcells]; simp [Cell.closeWindow, hd]
  · exact fun h => hstore ▸ hdrop0 h
  · exact fun h => hstore ▸ hdrop1 h
  · exact fun h => hstore ▸ hkeep0 h
  · exact fun h => hstore ▸ hkeep1 h
  case static => rw [settlePort_static, stopCompletes_static, hv.static]; rfl
  case loader => rw [settlePort_loader, stopCompletes_loader, hv.loader]; rfl
  case withdrawn =>
    intro hnone
    exact settlePort_waiting_none (r := .service) (by decide) ((congrArg Port.service hport).trans hnone)
  case rest =>
    intro ha
    have hne : s.service.activity ≠ .pass := by obtain ha | ha := ha <;> simp [ha]
    refine hactivity.trans (stopped_of_idle ?_)
    rw [(serviceFrameEnd_of_not_pass hne).1]
    exact ha
  case idle =>
    intro ha hcut
    refine hactivity.trans (stopped_of_idle (.inl ?_))
    rw [(serviceFrameEnd_of_idle ha hcut).1]
  case tail =>
    intro ha hcut
    have htail : (serviceFrameEnd s).service.activity = .tail := by rw [(serviceFrameEnd_of_inHand ha hcut).1]
    obtain ⟨hact, howes⟩ := stopped_of_busy (.inl htail)
    exact ⟨hactivity.trans (hact.trans htail), hclosing.trans howes⟩
  case busy =>
    intro ha
    have hne : s.service.activity ≠ .pass := by obtain ha | ha := ha <;> simp [ha]
    have hsame : (serviceFrameEnd s).service.activity = s.service.activity := by rw [(serviceFrameEnd_of_not_pass hne).1]
    obtain ⟨hact, howes⟩ := stopped_of_busy (hsame ▸ ha)
    exact ⟨hactivity.trans (hact.trans hsame), hclosing.trans howes⟩
  · rw [settlePort_health, stopCompletes_score, hv.health, endedFrame_score]
  · rw [settlePort_health, stopCompletes_faults]
  · intro l; rw [hcells]; simp [Cell.closeWindow]
  case raises =>
    rw [hcontrol, hrec]
    refine ⟨fun k hk => ?_, by simp [serviceFrameEnd_control], by simp [serviceFrameEnd_control]⟩
    cases k <;> simp [serviceFrameEnd_control] at hk ⊢
  · rw [hcontrol]; simp [serviceFrameEnd_control]
  case windows => rw [hqueue]; exact windowsReport s
  case queue => rw [hqueue]
  · rw [howed, stopped_owed, serviceFrameEnd_owed]
  · rw [hhost, stopped_hostControl, serviceFrameEnd_hostControl]
  · rw [settlePort_writer, stopCompletes_writer, hv.writer, endedFrame_writer]
  case goesOn =>
    refine portGoesOn_settlePort ⟨⟨by rw [hport]; rfl, by rw [hport]; rfl⟩, fun x hx => ?_⟩
    rw [hport]
    exact hx
  · rw [settlePort_now, stopCompletes_now, hv.now, endedFrame_now]
  · rw [settlePort_pending, stopCompletes_pending, hv.pending, endedFrame_pending]

/-- Settles O27: the settlement of a frame end that leaves HALTED is that of a HALT verdict. -/
theorem frameEndWithHaltVerdict : Obligations.FrameEndWithHaltVerdict := by
  intro c missing s h r hr he
  obtain ⟨v, hv, hexec⟩ := exec_frameEnd h
  obtain ⟨hcause, hover, hnone⟩ := settle_of_halted he hr
  have hcause : r.cause = some .health := hcause
  have hrecord : r.record = some (.state .halted .health) := by rw [Settlement.record, hcause, hr]; rfl
  rw [afterSettlement_of_halted hr, hrecord] at hexec
  let u := verdictHalts (some (.state .halted .health)) v
  have hcontrol : (settlePort u).control = ((serviceFrameEnd s).control.settled r).raiseIf false .plan := by
    rw [settlePort_control, verdictHalts_control, hv.control]
    rfl
  have hservice : u.service = (serviceFrameEnd s).service.verdictHalted := by
    rw [verdictHalts_service, hv.service]
    rfl
  have hwork : (serviceFrameEnd s).service.verdictHalted.SameWork (settlePort u).service :=
    hservice ▸ settlePort_sameWork u
  have hunit : (settlePort u).service = { s.service with
      activity := .none, owed := false, closingOwed := false
      unit := (settlePort u).service.unit, serial := (settlePort u).service.serial
      snapshot := (settlePort u).service.snapshot } := by
    refine (sameWork_eq hwork).trans ?_
    obtain ⟨-, -, e, -⟩ | ⟨-, -, e, -⟩ | ⟨-, e, -⟩ := serviceFrameEnd_service_cases s <;> rw [e] <;> rfl
  have hport : u.port = (serviceFrameEnd s).port.verdictHalt := by
    rw [verdictHalts_port, hv.port]
    rfl
  obtain ⟨hdrop0, hdrop1, -, -⟩ := dropFilling_cases s.store
  have hstore : (settlePort u).store = s.store.dropFilling := by
    rw [settlePort_store, verdictHalts_store, hv.store, endedFrame_store]
  have hcells : ∀ l, (settlePort u).cells.get l = (s.cells.get l).closeWindow := fun l => by
    rw [settlePort_cells, verdictHalts_cells, hv.cells, endedFrame_cells_get]
  have htimer : (settlePort u).timer = { s.timer with
      frameTime := none, phase := .none, acceptance := .off, earlySeen := false, syncOut := false
      lastLength := s.timer.frameTime.getD s.timer.lastLength, syncSample := v.timer.syncSample } := by
    rw [settlePort_timer, verdictHalts_timer, hv.timer]
    rfl
  have hjournal : v.journalWriteOutstanding = s.journalWriteOutstanding := by
    rw [State.journalWriteOutstanding, hv.port]
    rfl
  have hqueue : (settlePort u).queue = { s.queue with
      entries := (s.queue.reports (windowReports s.cells fun _ => true)).entries, runList := [], nextFree := 0
      action := none } := by
    rw [settlePort_queue, verdictHalts_queue, hv.queue, endedFrame_queue_eq]
  have hserviceSlot : (settlePort u).port.service = none :=
    settlePort_waiting_none (r := .service) (by decide) (congrArg Port.service hport)
  have hloaderSlot : (settlePort u).port.loader = none :=
    settlePort_waiting_none (r := .loader) (by decide) (congrArg Port.loader hport)
  refine ⟨_, hexec, ?_, ?_, ?overridden, ?kept, passCut_of hcontrol fun _ => hserviceSlot, hunit, ?_, ?_, ?_, ?_, ?_, ?_, ?_,
    ?_, ?staging, ?_, ?_, hserviceSlot, hloaderSlot, ?discarded, ?writer, ?loader, ?_, ?_, ?_, ?_, ?_, ?static, ?raises, ?_,
    ?windows, ?queue, ?_, ?_, ?registers, ?_, ?_⟩
  · rw [hcontrol]; simp [hr]
  · rw [hcontrol]; simp [hcause]
  case overridden =>
    intro hp
    have hended : r.ended = some .overridden := hover hp
    refine ⟨by rw [hcontrol]; simp [hended], ?_⟩
    rw [hcontrol, raiseIf_readback, settled_readback, serviceFrameEnd_control]
    simp [hended]
  case kept =>
    intro hp
    have hended : r.ended = none := hnone hp
    rw [hcontrol, raiseIf_readback, settled_readback, serviceFrameEnd_control]
    simp [hended]
  · rw [htimer]
  · rw [htimer]
  · rw [htimer]
  · rw [htimer]
  · rw [htimer]
  · rw [htimer]
  · rw [htimer]
  · rw [htimer]
  case staging =>
    rw [settlePort_staging, verdictHalts_staging, hjournal, hv.staging, hv.timer]
    rfl
  · rw [settlePort_writer, verdictHalts_writer, hv.writer, endedFrame_writer]
  · rw [hunit]
  case discarded =>
    intro x hx hq
    refine settlePort_outstanding ?_
    rw [hport]
    simp [Port.verdictHalt, Port.discardIf, hx, hq]
  case writer =>
    intro x hx hq
    refine settlePort_outstanding ?_
    rw [hport]
    simp [Port.verdictHalt, Port.discardIf, hx, hq]
  case loader => rw [settlePort_loader, verdictHalts_loader, hv.loader]; rfl
  · rw [settlePort_health, verdictHalts_score, hv.health, endedFrame_score]
  · rw [settlePort_health, verdictHalts_faults]
  · intro l; rw [hcells]; exact ⟨rfl, rfl, rfl⟩
  · exact fun h => hstore ▸ hdrop0 h
  · exact fun h => hstore ▸ hdrop1 h
  case static => rw [settlePort_static, verdictHalts_static, hv.static]; rfl
  case raises =>
    rw [hcontrol]
    refine ⟨fun k hk => ?_, by simp [serviceFrameEnd_control], by simp [serviceFrameEnd_control]⟩
    cases k <;> simp [serviceFrameEnd_control] at hk ⊢
  · rw [hcontrol]; simp [serviceFrameEnd_control]
  case windows => rw [hqueue]; exact windowsReport s
  case queue => rw [hqueue]
  · rw [hunit]
  · rw [hunit]
  case registers => exact ⟨by rw [settlePort_timeout, hport]; rfl, by rw [settlePort_busFaults, hport]; rfl⟩
  · rw [settlePort_now, verdictHalts_now, hv.now, endedFrame_now]
  · rw [settlePort_pending, verdictHalts_pending, hv.pending, endedFrame_pending]

end Sys2Proof.Proofs.Runs
end

section
/-! PROOFS. How a run starts and what SYNC_IN does outside a frame end: START in both modes (R8, R13, R136, R165), the first
edge, early edges and levels that are only sampled (R9 to R13), and STOP in SYNC_WAIT (R166). -/

namespace Sys2Proof.Proofs.RunStarts

open Sys2Proof Sys2Proof.Machine Sys2Proof.Proofs.EngineControl Sys2Proof.Proofs.PortGrants Sys2Proof.Proofs.FrameEnds
open Sys2Proof.Proofs.Runs

/-! ## START -/

/-- R136: the first write of the status write in progress waits at the port. -/
theorem statusIssued_eq_false {s : State} (h : ∃ w, s.port.service = some w ∧ w.kind = .statusFirst) :
    statusIssued s = false := by
  obtain ⟨⟨k, a, n⟩, hw, rfl⟩ := h
  simp [statusIssued, hw]

/-- R136: the first write of the status write in progress has been issued. -/
theorem statusIssued_eq_true {s : State} (h : ∀ w, s.port.service = some w → w.kind ≠ .statusFirst) :
    statusIssued s = true := by
  unfold statusIssued
  split
  · next hw => exact absurd rfl (h _ hw)
  · rfl

/-- R136: at START no closing write waits or is owed, and one whose first write waits is given up. -/
theorem started_activity (v : Service) (issued : Bool) :
    (v.activity = .closingWait → (v.started issued).activity = .none)
      ∧ (v.activity = .statusWrite → issued = false → (v.started issued).activity = .none)
      ∧ (v.activity = .statusWrite → issued = true → (v.started issued).activity = .statusWrite) := by
  refine ⟨fun h => ?_, fun h hi => ?_, fun h hi => ?_⟩ <;> simp [Service.started, *]

@[simp] theorem started_closingOwed (v : Service) (issued : Bool) : (v.started issued).closingOwed = false := by
  unfold Service.started
  cases v.activity <;> cases issued <;> rfl

@[simp] theorem started_hostControl (v : Service) (issued : Bool) : (v.started issued).hostControl = v.hostControl := by
  unfold Service.started
  cases v.activity <;> cases issued <;> rfl

@[simp] theorem started_serial (v : Service) (issued : Bool) : (v.started issued).serial = v.serial := by
  unfold Service.started
  cases v.activity <;> cases issued <;> rfl

@[simp] theorem startShared_service (e : EngineState) (s : State) :
    (startShared e s).service = s.service.started (statusIssued s) := rfl

@[simp] theorem startShared_queue (e : EngineState) (s : State) :
    (startShared e s).queue = { s.queue with runList := [], action := none } := rfl

/-- R159, R165: Engine Control at START. -/
@[simp] theorem startShared_control (e : EngineState) (s : State) : (startShared e s).control =
    { s.control.readbackIs codeStart .accepted .none .none with engine := e } := rfl

/-- R136: START touches the port only to withdraw the request of a closing write that it gives up (log 26). -/
theorem startShared_port_of_given_up {e : EngineState} {s : State} (ha : s.service.activity = .statusWrite)
    (hi : statusIssued s = false) : (startShared e s).port = { s.port with service := none } := by
  simp [startShared, ha, hi]

theorem startShared_port_of_issued {e : EngineState} {s : State} (hi : statusIssued s = true) :
    (startShared e s).port = s.port := by
  simp [startShared, hi]

theorem startShared_outstanding (e : EngineState) (s : State) :
    (startShared e s).port.outstanding = s.port.outstanding := by
  unfold startShared
  split <;> rfl

theorem portGoesOn_startShared (e : EngineState) (s : State) : s.PortGoesOn (startShared e s) := by
  refine ⟨?_, fun x hx => (startShared_outstanding e s).trans hx⟩
  unfold startShared State.SamePortRegisters
  split <;> exact ⟨rfl, rfl⟩

/-- R158: START in ARMED with nothing pending is taken. -/
theorem exec_start_of_armed {s : State} (he : s.control.engine = .armed) (hp : s.control.pending = .none) :
    exec .start s = .next (takeStart s) := by
  have ha : (s.control.engine == .armed) = true := by simp [he]
  refine congrArg Host.Outcome.next ?_
  rw [startWritten, ha, judgeCommand_of_accepted hp]

/-- The state the first frame of internal mode starts from. -/
theorem startsFrom_startShared (s : State) : StartsFrom s (startShared .running s) s.timer.lastLength where
  next := rfl
  length := rfl
  mode := rfl
  store := rfl
  loader := rfl
  staging := rfl
  outstanding := startShared_outstanding .running s
  plan := by
    rw [startShared_control, has_withEngine, readbackIs_has]
    simp
  reports := rfl
  cells l := ⟨(s.cells.get l).window, rfl⟩

/-- Settles O11: START's own changes, then a frame start. -/
theorem startInternalStartsTheFirstFrame : Obligations.StartInternalStartsTheFirstFrame := by
  intro s he hp hm
  have hexec : exec .start s = .next (settlePort (startInternal s)) := by
    rw [exec_start_of_armed he hp, takeStart, hm]
  let u := frameStart (some (.state .running .command)) false (startShared .running s)
  have hcontrol : (settlePort u).control =
      Control.raiseIf { s.control.readbackIs codeStart .accepted .none .none with engine := .running }
        s.store.switches .plan := by
    rw [settlePort_control, frameStart_control, startShared_control]
    rfl
  have hhas : ∀ k, (settlePort u).control.has k =
      (s.control.has k || decide (k = .command) || (s.store.switches && decide (k = .plan))) := fun k => by
    rw [hcontrol, raiseIf_has, has_withEngine, readbackIs_has]
  have hwork : (s.service.started (statusIssued s)).SameWork (settlePort u).service := settlePort_sameWork u
  have hport : u.port = (startShared .running s).port := rfl
  have hactivity := hwork.1
  obtain ⟨-, -, -, -, -, -, -, -, hhost, -, -, hclosing⟩ := hwork
  obtain ⟨hwait, hgiven, hgoes⟩ := started_activity s.service (statusIssued s)
  refine ⟨settlePort u, hexec, ?_, ?_, ?_, ?_, ?raises, ?_, ?_, ?_, ?started, ?_, ?_, ?_, ?_, ?_, ?queue,
    fun ha => hactivity.trans (hwait ha), ?givenUp, ?goesOn, ?_, ?_, ?_, ?port, ?_⟩
  · rw [hcontrol]; simp
  · rw [hcontrol]; simp [hp]
  · rw [hcontrol]; simp [codeStart]
  · rw [hhas]; simp
  case raises =>
    refine ⟨fun k hk => ?_, by rw [hcontrol]; simp, by rw [hcontrol]; simp⟩
    rw [hhas]
    cases k <;> simp at hk ⊢
  · rw [hcontrol]; simp
  · rw [hcontrol]; simp
  · rw [hcontrol]; simp
  case started => exact frameStarted_settlePort (frameStarted_frameStart (startsFrom_startShared s) _ _)
  · rw [settlePort_timer]; rfl
  · rw [settlePort_health]; rfl
  · rw [settlePort_health]; rfl
  · rw [settlePort_health]; rfl
  · intro l
    rw [settlePort_cells, frameStart_cells_get, cell_atFrameStart_window]
    rfl
  case queue =>
    rw [settlePort_queue, frameStart_queue_eq, settlePort_store]
    rfl
  case givenUp =>
    intro ha hw
    have hi := statusIssued_eq_false hw
    refine ⟨hactivity.trans (hgiven ha hi), settlePort_waiting_none (r := .service) (by decide) ?_⟩
    exact (congrArg Port.service hport).trans (by rw [startShared_port_of_given_up ha hi])
  case goesOn =>
    intro ha hw
    have hi := statusIssued_eq_true hw
    have hsame : u.port = s.port := hport.trans (startShared_port_of_issued hi)
    refine ⟨hactivity.trans (hgoes ha hi), fun ho => ?_⟩
    rw [settlePort_service_of_busy (by rw [hsame]; exact ho), hsame]
  · rw [hclosing, started_closingOwed]
  · rw [hhost, started_hostControl]
  · rw [settlePort_writer]; rfl
  case port => exact portGoesOn_settlePort (portGoesOn_startShared .running s)
  · exact ⟨by rw [settlePort_now]; rfl, by rw [settlePort_outside]; rfl, by rw [settlePort_pending]; rfl⟩

/-- Settles O12: START's own changes, and the wait for the first edge. -/
theorem startExternalAwaitsTheFirstEdge : Obligations.StartExternalAwaitsTheFirstEdge := by
  intro s he hp hm
  have hexec : exec .start s = .next (startExternal s) := by
    rw [exec_start_of_armed he hp, takeStart, hm]
  obtain ⟨hwait, hgiven, hgoes⟩ := started_activity s.service (statusIssued s)
  have hservice : (startExternal s).service = s.service.started (statusIssued s) := rfl
  have hport : (startExternal s).port = (startShared .syncWait s).port := rfl
  have hcontrol : (startExternal s).control = s.control.accepted 2 .syncWait .none := by
    rw [Control.accepted, ← hp]
    rfl
  refine ⟨startExternal s, hexec, hcontrol, rfl, rfl, hwait, ?givenUp, ?goesOn, ?_, ?_, rfl, rfl, rfl, rfl, rfl, rfl, rfl, rfl, rfl, rfl,
    rfl, ?_, startShared_outstanding .syncWait s, portGoesOn_startShared .syncWait s, rfl, rfl, rfl⟩
  case givenUp =>
    intro ha hw
    have hi := statusIssued_eq_false hw
    exact ⟨hgiven ha hi, by rw [hport, startShared_port_of_given_up ha hi]⟩
  case goesOn =>
    intro ha hw
    have hi := statusIssued_eq_true hw
    exact ⟨hgoes ha hi, by rw [hport, startShared_port_of_issued hi]⟩
  · rw [hservice, started_closingOwed]
  · rw [hservice, started_serial]
  · rw [hservice, started_hostControl]

/-! ## SYNC_IN -/

/-- R13: the first edge in SYNC_WAIT. -/
theorem judgeEdge_of_syncWait {s : State} (hm : s.control.setup.mode = .external) (he : s.control.engine = .syncWait) :
    judgeEdge s = firstEdge s := by
  simp [judgeEdge, hm, he]

/-- The state the first frame of external mode starts from. -/
theorem startsFrom_firstEdge (level : Bool) (s : State) :
    StartsFrom s { sampleSync level s with control := { s.control with engine := .running } } s.timer.lastLength :=
  ⟨rfl, rfl, rfl, rfl, rfl, rfl, rfl, rfl, rfl, fun l => ⟨(s.cells.get l).window, rfl⟩⟩

/-- Settles O19: the sample, and a frame start with the engine RUNNING. -/
theorem firstEdgeStartsTheRun : Obligations.FirstEdgeStartsTheRun := by
  intro level s he hm hedge
  let v : State := { sampleSync level s with control := { s.control with engine := .running } }
  let u := frameStart (some (.state .running .command)) false v
  have hexec : exec (.syncInEdge level) s = .next (settlePort u) := by
    refine (FrameScore.execSyncInEdge_of_active hedge).trans ?_
    rw [judgeEdge_of_syncWait (s := sampleSync level s) hm he]
    rfl
  have hcontrol : (settlePort u).control =
      ({ s.control with engine := .running } : Control).raiseIf s.store.switches .plan := by
    rw [settlePort_control, frameStart_control]
    rfl
  refine ⟨_, hexec, ?_, ?_, ?_, ?_, ?started, ?_, ?raises, ?_, ?_, ?queue, settlePort_sameWork u, ?_,
    portGoesOn_settlePort (portGoesOn_of_eq rfl), ?_, ?_, ?_, ?_, ?_, ?_⟩
  · rw [hcontrol]; simp
  · rw [hcontrol]; simp
  · rw [hcontrol]; simp
  · rw [hcontrol, raiseIf_has, has_withEngine]; simp
  case started => exact frameStarted_settlePort (frameStarted_frameStart (startsFrom_firstEdge level s) _ _)
  · rw [settlePort_timer]; rfl
  case raises =>
    refine ⟨fun k hk => ?_, by rw [hcontrol]; simp, by rw [hcontrol]; simp⟩
    rw [hcontrol, raiseIf_has, has_withEngine]
    cases k <;> simp at hk ⊢
  · rw [hcontrol]; simp
  · intro l
    rw [settlePort_cells, frameStart_cells_get, cell_atFrameStart_window]
    rfl
  case queue =>
    rw [settlePort_queue, frameStart_queue_eq, settlePort_store]
    rfl
  · rw [settlePort_writer]; rfl
  · rw [settlePort_health]; rfl
  · rw [settlePort_health]; rfl
  · rw [settlePort_health]; rfl
  · rw [settlePort_outside]; rfl
  · rw [settlePort_now]; rfl
  · rw [settlePort_pending]; rfl

/-- R10, R12: an edge before the acceptance window. -/
theorem edgeInFrame_of_early {t : Nat} {s : State} (h0 : t ≠ 0)
    (hearly : t + s.control.setup.tolerance < s.timer.geometry.frameLength) : edgeInFrame t s = earlyEdge s := by
  simp [edgeInFrame, h0, hearly]

/-- Log 20: an edge at the first tick of a frame. -/
theorem edgeInFrame_zero (s : State) : edgeInFrame 0 s = s := if_pos rfl

/-- R12: the first early edge of a frame is reported. -/
theorem earlyEdge_of_first {s : State} (h : s.timer.earlySeen = false) : earlyEdge s =
    { s with timer := { s.timer with earlySeen := true }, health := s.health.reportSync } := by
  simp [earlyEdge, h]

/-- R12: a later early edge has no effect. -/
theorem earlyEdge_of_later {s : State} (h : s.timer.earlySeen = true) : earlyEdge s = s := by
  obtain ⟨control, timer, rest⟩ := s
  obtain ⟨ft, nf, cur, g, ph, acc, early, ll, so, ss⟩ := timer
  obtain rfl : early = true := h
  rfl

/-- Settles O20: an early edge is judged by the flag; a frame start clears the flag. -/
theorem earlyEdgeIsReportedOnce : Obligations.EarlyEdgeIsReportedOnce := by
  refine ⟨fun level time s hm he ht hearly hedge => ?edge, fun _ _ _ => rfl⟩
  case edge =>
    have hjudge : exec (.syncInEdge level) s = .next (edgeInFrame time (sampleSync level s)) := by
      refine (FrameScore.execSyncInEdge_of_active hedge).trans ?_
      rw [FrameScore.judgeEdge_of_frame (s := sampleSync level s) (t := time) hm he ht]
    refine ⟨fun h0 hfirst => ?first, fun h => ?later⟩
    case first =>
      rw [hjudge, edgeInFrame_of_early (s := sampleSync level s) h0 hearly,
        earlyEdge_of_first (s := sampleSync level s) hfirst]
      rfl
    case later =>
      rw [hjudge]
      by_cases h0 : time = 0
      · rw [h0, edgeInFrame_zero]; rfl
      · rw [edgeInFrame_of_early (s := sampleSync level s) h0 hearly,
          earlyEdge_of_later (s := sampleSync level s) (h.resolve_left h0)]
        rfl

/-- R26: two successive samples that differ upward. -/
theorem edgeBetween_eq_rise {earlier : Option Bool} {later : Bool} :
    edgeBetween earlier later = some .rise ↔ earlier = some false ∧ later = true := by
  cases earlier with
  | none => simp [edgeBetween]
  | some b => cases b <;> cases later <;> simp [edgeBetween]

/-- R26: two successive samples that differ downward. -/
theorem edgeBetween_eq_fall {earlier : Option Bool} {later : Bool} :
    edgeBetween earlier later = some .fall ↔ earlier = some true ∧ later = false := by
  cases earlier with
  | none => simp [edgeBetween]
  | some b => cases b <;> cases later <;> simp [edgeBetween]

/-- R7, R9: an active edge of internal mode, or outside SYNC_WAIT and a running frame. -/
theorem judgeEdge_of_idle {s : State}
    (h : s.control.setup.mode = .internal ∨ (s.control.engine ≠ .syncWait ∧ s.timer.frameTime = none)) :
    judgeEdge s = s := by
  obtain hm | ⟨he, ht⟩ := h
  · simp [judgeEdge, hm]
  · simp [judgeEdge, he, ht]

/-- Settles O21: a level that is no active edge is sampled, and an active edge is judged only in external mode, in SYNC_WAIT or
inside a frame. -/
theorem otherSyncLevelsAreOnlySampled : Obligations.OtherSyncLevelsAreOnlySampled := by
  refine ⟨fun level s h => ?sampled, fun u earlier later => ?active⟩
  case sampled =>
    refine congrArg Host.Outcome.next ?_
    cases hedge : activeEdge s.control.setup s.timer.syncSample level with
    | false => rfl
    | true => exact judgeEdge_of_idle (s := sampleSync level s) (h.resolve_left (by simp [hedge]))
  case active =>
    unfold activeEdge
    rw [decide_eq_true_iff]
    cases u.activeEdge with
    | rise => simp [edgeBetween_eq_rise]
    | fall => simp [edgeBetween_eq_fall]

/-! ## STOP in SYNC_WAIT -/

/-- Settles O14: STOP in SYNC_WAIT is one update of the part, and the port settles. -/
theorem stopInSyncWaitCompletes : Obligations.StopInSyncWaitCompletes := by
  intro s he hp
  have hexec : exec .stop s = .next (stopInSyncWait s) := by
    have ha : acceptsStop s.control.engine = true := by simp [acceptsStop, he]
    refine congrArg Host.Outcome.next ?_
    rw [stopWritten, ha, judgeCommand_of_accepted hp, takeStop, if_pos he]
  have hwork : s.service.stopped.SameWork (stopInSyncWait s).service := settlePort_sameWork _
  have hactivity := hwork.1
  obtain ⟨-, -, -, -, -, -, -, -, hhost, -, -, hclosing⟩ := hwork
  refine ⟨_, hexec, ?control, ?_, ?_, ?cells, fun ha => hactivity.trans (stopped_of_idle ha), ?busy, ?_, ?_, ?_, ?_, ?_, ?_,
    ?_, ?_, ?_, portGoesOn_settlePort (portGoesOn_of_eq rfl), ?_⟩
  case control =>
    rw [stopInSyncWait, settlePort_control, Control.accepted, ← hp]
    rfl
  · rw [stopInSyncWait, settlePort_timer]; rfl
  · rw [stopInSyncWait, settlePort_staging]; rfl
  case cells =>
    intro l
    rw [stopInSyncWait, settlePort_cells]
    exact mapCells_get s.cells (fun _ c => c.toRest) l
  case busy =>
    intro ha
    obtain ⟨hact, howes⟩ := stopped_of_busy ha
    exact ⟨hactivity.trans hact, hclosing.trans howes⟩
  · rw [stopInSyncWait, settlePort_static]; rfl
  · rw [stopInSyncWait, settlePort_loader]; rfl
  · rw [stopInSyncWait, settlePort_queue]; rfl
  · rw [stopInSyncWait, settlePort_writer]; rfl
  · rw [stopInSyncWait, settlePort_store]; rfl
  · rw [hhost, stopped_hostControl]
  · rw [stopInSyncWait, settlePort_health]; rfl
  · rw [stopInSyncWait, settlePort_health]; rfl
  · rw [stopInSyncWait, settlePort_health]; rfl
  · exact ⟨by rw [stopInSyncWait, settlePort_now]; rfl, by rw [stopInSyncWait, settlePort_outside]; rfl,
      by rw [stopInSyncWait, settlePort_pending]; rfl⟩

end Sys2Proof.Proofs.RunStarts
end

section
/-! PROOFS. What the ends of transfers leave of the blocks that have no part in them, and the bounds that every step keeps (R2,
R93, R94, R112, R128, R151, R172). -/

namespace Sys2Proof.Proofs.Bounds

open Sys2Proof Sys2Proof.Machine Sys2Proof.Proofs.EngineControl Sys2Proof.Proofs.PortGrants Sys2Proof.Proofs.FrameEnds
open Sys2Proof.Proofs.Runs Sys2Proof.Proofs.RunStarts Sys2Proof.Proofs.Moves

/-! ## XBASE at the ends of transfers -/

@[simp] theorem loadFails_xbase (r : CmdReason) (d : PlanDetail) (s : State) :
    (loadFails r d s).control.xbase = s.control.xbase := rfl

@[simp] theorem planRejected_xbase (d : PlanDetail) (s : State) :
    (planRejected d s).control.xbase = s.control.xbase := by
  unfold planRejected; split <;> rfl

@[simp] theorem planBusFailed_xbase (d : PlanDetail) (s : State) :
    (planBusFailed d s).control.xbase = s.control.xbase := by
  unfold planBusFailed; split <;> rfl

@[simp] theorem planCurrent_xbase (s : State) : (planCurrent s).control.xbase = s.control.xbase := rfl

@[simp] theorem judgePlan_xbase (s : State) : (judgePlan s).control.xbase = s.control.xbase := by
  unfold judgePlan
  split
  · simp
  · split <;> simp

@[simp] theorem judgeHeader_xbase (s : State) : (judgeHeader s).control.xbase = s.control.xbase := by
  unfold judgeHeader; dsimp only; split <;> simp

@[simp] theorem afterPlanBytes_xbase (s : State) : (afterPlanBytes s).control.xbase = s.control.xbase := by
  unfold afterPlanBytes
  split
  · simp
  · split <;> simp

@[simp] theorem planReadReturns_xbase (bs : List Byte) (s : State) :
    (planReadReturns bs s).control.xbase = s.control.xbase := by
  unfold planReadReturns; split <;> simp

@[simp] theorem planReadFails_xbase (d : PlanDetail) (s : State) :
    (planReadFails d s).control.xbase = s.control.xbase := by
  unfold planReadFails; split <;> simp

@[simp] theorem firstRead_xbase (s : State) : (firstRead s).control.xbase = s.control.xbase := by
  unfold firstRead; split <;> simp

@[simp] theorem overtake_xbase (a : Addr) (g : Word) (s : State) :
    (overtake a g s).control.xbase = s.control.xbase := firstRead_xbase _

@[simp] theorem startLoad_xbase (a : Addr) (g : Word) (s : State) :
    (startLoad a g s).control.xbase = s.control.xbase := firstRead_xbase _

@[simp] theorem handOverPlan_xbase (a : Addr) (g : Word) (s : State) :
    (handOverPlan a g s).control.xbase = s.control.xbase := by
  unfold handOverPlan
  split
  · split
    · split <;> simp
    · split <;> simp
  · rfl

@[simp] theorem handOvers_xbase (s : State) : (handOvers s).control.xbase = s.control.xbase := handOverPlan_xbase _ _ _

@[simp] theorem passEvaluations_xbase (s : State) : (passEvaluations s).control.xbase = s.control.xbase := by
  simp [passEvaluations]

@[simp] theorem noteFinal_xbase (w : StateWord) (s : State) : (noteFinal w s).control.xbase = s.control.xbase := by
  simp [noteFinal]

@[simp] theorem statusEnds_xbase (s : State) : (statusEnds s).control.xbase = s.control.xbase := by
  unfold statusEnds
  split
  · simp
  · simp
  · split
    · rfl
    · simp
  · rfl
  · rfl

/-! ## The frame of an end -/

/-- What no end of a transfer touches. -/
structure SameOutsidePort (u v : State) : Prop where
  timer : v.timer = u.timer
  static : v.static = u.static
  score : v.health.score = u.health.score
  xbase : v.control.xbase = u.control.xbase
  outside : v.outside = u.outside
  now : v.now = u.now
  pending : v.pending = u.pending

theorem SameOutsidePort.rfl {u : State} : SameOutsidePort u u := ⟨.refl _, .refl _, .refl _, .refl _, .refl _, .refl _, .refl _⟩

theorem SameOutsidePort.trans {u v w : State} (h : SameOutsidePort u v) (k : SameOutsidePort v w) :
    SameOutsidePort u w :=
  ⟨k.timer.trans h.timer, k.static.trans h.static, k.score.trans h.score, k.xbase.trans h.xbase,
    k.outside.trans h.outside, k.now.trans h.now, k.pending.trans h.pending⟩

theorem unitEnds_frame (s : State) : SameOutsidePort s (unitEnds s) := by
  constructor <;> simp

theorem unitEnds_frame_of {s t : State} (h : SameOutsidePort s t) : SameOutsidePort s (unitEnds t) :=
  h.trans (unitEnds_frame t)

theorem setupReturns_frame (bs : List Byte) (s : State) : SameOutsidePort s (setupReturns bs s) := by
  unfold setupReturns
  dsimp only
  split <;> constructor <;> rfl

theorem loadHostControlReturns_frame (bs : List Byte) (s : State) : SameOutsidePort s (loadHostControlReturns bs s) := by
  unfold loadHostControlReturns
  dsimp only
  split
  · constructor <;> rfl
  · constructor <;> simp [startInitialLoad, takeLoadHostControl]

theorem stepAReturns_frame (bs : List Byte) (s : State) : SameOutsidePort s (stepAReturns bs s) := by
  constructor <;> simp [stepAReturns]

theorem planReadReturns_frame (bs : List Byte) (s : State) : SameOutsidePort s (planReadReturns bs s) := by
  constructor <;> simp

theorem takePosted_frame (i : Nat) (tag : Word) (r : Request) (s : State) : SameOutsidePort s (takePosted i tag r s) := by
  unfold takePosted
  split
  · constructor <;> simp
  · split
    · constructor <;> simp
    · exact unitEnds_frame_of (by constructor <;> rfl)

theorem postedHeld_frame (i : Nat) (e : Entry) (s : State) : SameOutsidePort s (postedHeld i e s) := by
  unfold postedHeld
  split
  · exact unitEnds_frame s
  · constructor <;> simp

theorem cancelRead_frame (i : Nat) (s : State) : SameOutsidePort s (cancelRead i s) := by
  unfold cancelRead
  split
  · split
    · constructor <;> simp
    · exact unitEnds_frame s
  · constructor <;> simp

theorem handleEntry_frame (i : Nat) (bs : List Byte) (s : State) : SameOutsidePort s (handleEntry i bs s) := by
  unfold handleEntry
  split
  · split
    · exact postedHeld_frame i _ s
    · exact takePosted_frame i _ _ s
  · exact cancelRead_frame i s
  · exact unitEnds_frame s
  · exact unitEnds_frame s
  · exact unitEnds_frame s
  · exact unitEnds_frame s
  · exact unitEnds_frame s
  · exact unitEnds_frame s
  · exact unitEnds_frame s
  · exact unitEnds_frame_of (by constructor <;> rfl)

theorem stateWordDone_frame (i : Nat) (w : StateWord) (s : State) : SameOutsidePort s (stateWordDone i w s) := by
  constructor <;> simp [stateWordDone]

theorem statusEnds_frame (s : State) : SameOutsidePort s (statusEnds s) := by
  constructor <;> simp

theorem statusSecondDone_frame (s : State) : SameOutsidePort s (statusSecondDone s) := by
  constructor <;> simp [statusSecondDone]

/-- R113: the judgement of the records that waited reports a loss at most. -/
theorem judgeOffers_score (s : State) : (judgeOffers s).health.score = s.health.score := rfl

theorem journalDone_frame (s : State) : SameOutsidePort s (journalDone s) := by
  constructor <;> rfl

theorem journalFailed_frame (s : State) : SameOutsidePort s (journalFailed s) := by
  constructor <;> rfl

theorem countFailure_frame (s : State) : SameOutsidePort s (countFailure s) := by
  constructor <;> rfl

theorem stepAEnds_handOvers_frame (s : State) : SameOutsidePort s (stepAEnds (handOvers s)) := by
  constructor <;> simp

theorem failureHanded_frame (d : PlanDetail) (k : TransferKind) (s : State) : SameOutsidePort s (failureHanded d k s) := by
  cases k with
  | setupRead => constructor <;> rfl
  | hostControlRead => constructor <;> rfl
  | stepARead => exact stepAEnds_handOvers_frame s
  | planRead => constructor <;> simp [failureHanded]
  | boardRead i => exact unitEnds_frame s
  | resultWrite i r w => exact unitEnds_frame s
  | stateWrite i w => exact unitEnds_frame s
  | statusFirst => exact statusEnds_frame s
  | statusSecond => exact statusEnds_frame s
  | journalWrite => exact journalFailed_frame s

/-- The blocks that act in time and the counts of the Health Monitor's score have no part in the ends of transfers. -/
theorem answers_frame {x : Transfer} {f : State → State} (h : Answers x f) (u : State) : SameOutsidePort u (f u) := by
  cases h with
  | setupRead data _ => exact setupReturns_frame data u
  | hostControl data _ => exact loadHostControlReturns_frame data u
  | stepA data _ => exact stepAReturns_frame data u
  | planRead data _ => exact planReadReturns_frame data u
  | boardRead i data _ => exact handleEntry_frame i data u
  | resultWrite i r w _ => constructor <;> simp
  | stateWrite i w _ => exact stateWordDone_frame i w u
  | statusFirst _ => constructor <;> simp [statusFirstDone]
  | statusSecond _ => exact statusSecondDone_frame u
  | journalWrite _ => exact journalDone_frame u
  | failure d => exact (countFailure_frame u).trans (failureHanded_frame d x.kind _)

end Sys2Proof.Proofs.Bounds
end

section
/-! PROOFS. The Spot Queue and the post list under every move (R93, R94, R128), and the bounds that every step keeps (R2, R112,
R151, R172). -/

namespace Sys2Proof.Proofs.EveryStepBounds

open Sys2Proof Sys2Proof.Machine Sys2Proof.Proofs.EngineControl Sys2Proof.Proofs.PortGrants Sys2Proof.Proofs.FrameEnds
open Sys2Proof.Proofs.Runs Sys2Proof.Proofs.RunStarts Sys2Proof.Proofs.Moves Sys2Proof.Proofs.Bounds

/-! ## What identifies an entry and gives it its place -/

/-- The items of an entry that no operation changes: its board index, its priority and its take sequence. -/
def ident (e : Entry) : Nat × Byte × Word := (e.board, e.request.priority, e.take)

/-- The entries of a queue by these items. -/
def idents (q : Queue) : List (Nat × Byte × Word) := q.entries.map ident

theorem idents_map {q : Queue} {f : Entry → Entry} (h : ∀ e, ident (f e) = ident e) :
    idents { q with entries := q.entries.map f } = idents q := by
  simp only [idents, List.map_map]
  exact List.map_congr_left fun e _ => h e

/-- A change of the entry of one board index that keeps its identity. -/
theorem idents_onBoard (q : Queue) (board : Nat) {f : Entry → Entry} (h : ∀ e, ident (f e) = ident e) :
    idents (q.onBoard board f) = idents q := by
  refine idents_map fun e => ?_
  split
  · exact h e
  · rfl

theorem idents_reports (q : Queue) (rs : List (Option (Nat × Nat))) : idents (q.reports rs) = idents q := by
  rw [idents, WindowReports.reports_entries, List.map_map]
  rfl

theorem idents_report (q : Queue) (r : Option (Nat × Nat)) : idents (q.report r) = idents q :=
  idents_reports q [r]

theorem ident_revalidate (plan : List Byte) (e : Entry) : ident (e.revalidate plan) = ident e := by
  unfold Entry.revalidate
  split
  · split
    · rfl
    · split <;> rfl
  · rfl

theorem idents_revalidate (q : Queue) (plan : List Byte) : idents (q.revalidate plan) = idents q :=
  idents_map (ident_revalidate plan)

theorem ident_expire (frame : Word) (e : Entry) : ident (e.expire frame) = ident e := by
  unfold Entry.expire
  split <;> rfl

theorem placeWalk_idents (g : Geometry) (frame : Word) (held : Bool) (m : Nat) (es : List Entry) :
    (placeWalk g frame held m es).1.map ident = es.map ident := by
  induction es generalizing m with
  | nil => rfl
  | cons e rest ih =>
    unfold placeWalk
    split
    · split
      · exact congrArg (ident e :: ·) (ih _)
      · rfl
    · exact congrArg (ident e :: ·) (ih _)

theorem idents_dynamicPhase (q : Queue) (g : Geometry) (frame : Word) (held : Bool) :
    idents (q.dynamicPhase g frame held) = idents q :=
  (placeWalk_idents g frame held 0 _).trans (idents_map (q := q) (ident_expire frame))

theorem idents_execute (q : Queue) (e : Entry) (frame : Word) (time now : Nat) :
    idents (q.execute e frame time now) = idents q :=
  idents_onBoard q e.board fun _ => rfl

theorem idents_finishAction (q : Queue) (a : SpotAction) : idents (q.finishAction a) = idents q :=
  idents_onBoard q a.board fun _ => rfl

theorem idents_remove (q : Queue) (board : Nat) : (idents (q.remove board)).Sublist (idents q) :=
  List.filter_sublist.map ident

/-- R94: a request is taken between two states: it joins the queue, which has room and does not hold its board index. -/
def Taken (s t : State) : Prop :=
  ∃ board tag r, t.queue = s.queue.insert board tag r s.timer.nextFrame ∧ s.queue.find board = none
    ∧ s.queue.entries.length < 16

/-- The entries of a state are left from those of another, or a request has been taken. -/
def EntriesFrom (s t : State) : Prop := (idents t.queue).Sublist (idents s.queue) ∨ Taken s t

theorem entriesFrom_of_idents {s t : State} (h : idents t.queue = idents s.queue) : EntriesFrom s t :=
  .inl (h ▸ List.Sublist.refl _)

theorem entriesFrom_of_queue {s t : State} (h : t.queue = s.queue) : EntriesFrom s t :=
  entriesFrom_of_idents (congrArg idents h)

theorem entriesFrom_of_empty {s t : State} (h : t.queue.entries = []) : EntriesFrom s t := by
  refine .inl ?_
  simp [idents, h]

/-! ## The queue at the ends of transfers -/

theorem takePosted_entries {i : Nat} {s : State} (tag : Word) (r : Request) (h : s.queue.find i = none) :
    EntriesFrom s (takePosted i tag r s) := by
  unfold takePosted
  split
  · exact entriesFrom_of_queue (by simp)
  · split
    · next hroom => exact .inr ⟨i, tag, r, by simp, h, hroom⟩
    · exact entriesFrom_of_queue (by simp)

theorem cancelRead_entries (i : Nat) (s : State) : EntriesFrom s (cancelRead i s) := by
  unfold cancelRead
  split
  · split
    · refine entriesFrom_of_idents ?_
      rw [requestResult_queue]
      exact idents_onBoard s.queue i fun _ => rfl
    · exact entriesFrom_of_queue (by simp)
  · exact entriesFrom_of_queue (by simp)

theorem postedHeld_queue (i : Nat) (e : Entry) (s : State) : (postedHeld i e s).queue = s.queue := by
  unfold postedHeld
  split <;> simp

theorem handleEntry_entries (i : Nat) (bs : List Byte) (s : State) : EntriesFrom s (handleEntry i bs s) := by
  unfold handleEntry
  split
  · split
    · exact entriesFrom_of_queue (postedHeld_queue i _ s)
    · next h => exact takePosted_entries _ _ h
  · exact cancelRead_entries i s
  all_goals exact entriesFrom_of_queue (by simp)

theorem removeAnswered_entries (i : Nat) (w : StateWord) (s : State) : EntriesFrom s (removeAnswered i w s) := by
  unfold removeAnswered
  cases s.service.unit with
  | post j => exact .inl (idents_remove s.queue i)
  | scan j =>
    dsimp only
    by_cases hw : w = .cancelled
    · rw [if_pos hw]; exact .inl (idents_remove s.queue i)
    · rw [if_neg hw]; exact entriesFrom_of_queue rfl
  | none => exact entriesFrom_of_queue rfl
  | status => exact entriesFrom_of_queue rfl

theorem setupReturns_queue (bs : List Byte) (s : State) : (setupReturns bs s).queue = s.queue := by
  unfold setupReturns
  dsimp only
  split <;> rfl

theorem loadHostControlReturns_queue (bs : List Byte) (s : State) : (loadHostControlReturns bs s).queue = s.queue := by
  unfold loadHostControlReturns
  dsimp only
  split <;> simp

theorem failureHanded_queue (d : PlanDetail) (k : TransferKind) (s : State) : (failureHanded d k s).queue = s.queue := by
  cases k <;> simp [failureHanded]

/-- R94, R96: at the end of a transfer entries leave the queue, or a request is taken. -/
theorem answers_entries {x : Transfer} {f : State → State} (h : Answers x f) (u : State) : EntriesFrom u (f u) := by
  cases h with
  | setupRead data _ => exact entriesFrom_of_queue (setupReturns_queue data u)
  | hostControl data _ => exact entriesFrom_of_queue (loadHostControlReturns_queue data u)
  | stepA data _ => exact entriesFrom_of_queue (by simp [stepAReturns])
  | planRead data _ => exact entriesFrom_of_queue (by simp)
  | boardRead i data _ => exact handleEntry_entries i data u
  | resultWrite i r w _ => exact entriesFrom_of_queue (by simp)
  | stateWrite i w _ =>
    have hq : (stateWordDone i w u).queue = (removeAnswered i w (noteFinal w u)).queue := by simp [stateWordDone]
    obtain hs | ⟨b, tag, r, hi, hf, hl⟩ := removeAnswered_entries i w (noteFinal w u)
    · exact .inl (by rw [hq]; exact hs)
    · exact .inr ⟨b, tag, r, hq.trans hi, hf, hl⟩
  | statusFirst _ => exact entriesFrom_of_queue (by simp [statusFirstDone])
  | statusSecond _ => exact entriesFrom_of_queue (by simp [statusSecondDone])
  | journalWrite _ => exact entriesFrom_of_queue rfl
  | failure d => exact entriesFrom_of_queue (failureHanded_queue d x.kind _)

/-! ## The queue under every move -/

theorem frameStart_idents (change : Option RecordBody) (returning : Bool) (s : State) :
    idents (frameStart change returning s).queue = idents s.queue := by
  rw [frameStart_queue]
  split
  · exact idents_revalidate _ _
  · rfl

theorem afterSettlement_idents (r : Settlement) (wasHeld : Bool) (s : State) :
    idents (afterSettlement r wasHeld s).queue = idents s.queue := by
  unfold afterSettlement
  cases r.engine with
  | running => exact frameStart_idents _ _ s
  | held => exact frameStart_idents _ _ s
  | armed => rfl
  | halted => rfl
  | idle => rfl
  | loading => rfl
  | syncWait => rfl

theorem frameEnd_idents (missing : Bool) (s : State) : idents (frameEnd missing s).queue = idents s.queue := by
  rw [frameEnd_eq, afterSettlement_idents, endedFrame_queue]
  exact idents_reports s.queue _

theorem sampleLine_idents (l : Line) (s : State) : idents (sampleLine l s).queue = idents s.queue :=
  idents_report s.queue _

theorem sampleLines_idents (ls : List Line) (s : State) : idents (sampleLines ls s).queue = idents s.queue := by
  induction ls generalizing s with
  | nil => rfl
  | cons l ls ih => exact (ih (sampleLine l s)).trans (sampleLine_idents l s)

theorem finishSpotDue_idents (s : State) : idents (finishSpotDue s).queue = idents s.queue := by
  unfold finishSpotDue
  cases spotDue s with
  | none => rfl
  | some a => exact (idents_finishAction _ a).trans (idents_reports s.queue _)

theorem startSpot_idents (e : Entry) (s : State) : idents (startSpot e s).queue = idents s.queue := by
  have h := idents_execute s.queue e s.timer.current (s.timer.frameTime.getD 0) s.now
  unfold startSpot
  dsimp only
  split
  · rw [settlePort_queue]; exact h
  · exact h
  · exact h

theorem minislotStarts_idents (m : Nat) (s : State) : idents (minislotStarts m s).queue = idents s.queue := by
  have h := finishSpotDue_idents (enterMinislot m s)
  unfold minislotStarts startPlaced
  cases (finishSpotDue (enterMinislot m s)).queue.startingAt m with
  | none => exact h
  | some e => exact (startSpot_idents e _).trans h

theorem serviceWindow_queue (s : State) : (serviceWindow s).queue = s.queue := by
  unfold serviceWindow
  dsimp only
  split <;> simp

/-- R93, R94, R96: every move leaves entries of the queue, or takes one request. -/
theorem move_entries {s t : State} (h : Move s t) : EntriesFrom s t := by
  cases h with
  | stays => exact entriesFrom_of_queue rfl
  | reset => exact entriesFrom_of_empty rfl
  | refused => exact entriesFrom_of_queue rfl
  | load => exact entriesFrom_of_empty (by simp [takeLoad, Queue.reset])
  | startInternal => exact entriesFrom_of_idents (by rw [settlePort_queue]; exact frameStart_idents _ _ _)
  | startExternal => exact entriesFrom_of_idents rfl
  | stopPends => exact entriesFrom_of_queue rfl
  | stopInSyncWait => exact entriesFrom_of_queue (by rw [stopInSyncWait, settlePort_queue]; rfl)
  | resume => exact entriesFrom_of_queue rfl
  | halt => exact entriesFrom_of_empty rfl
  | haltAgain => exact entriesFrom_of_empty rfl
  | clear => exact entriesFrom_of_empty rfl
  | xbase => exact entriesFrom_of_queue rfl
  | cause => exact entriesFrom_of_queue rfl
  | mask => exact entriesFrom_of_queue rfl
  | sample => exact entriesFrom_of_queue rfl
  | firstEdge => exact entriesFrom_of_idents (by rw [firstEdge, settlePort_queue]; exact frameStart_idents _ _ _)
  | earlyEdge => exact entriesFrom_of_queue rfl
  | frameEnd missing u hu =>
    have hq : u.queue = s.queue := by obtain rfl | ⟨level, rfl⟩ := hu <;> rfl
    exact entriesFrom_of_idents (by rw [settlePort_queue, frameEnd_idents, hq])
  | lineEdge => exact entriesFrom_of_idents (by rw [settlePort_queue]; exact sampleLines_idents _ _)
  | instant => exact entriesFrom_of_queue rfl
  | lines => exact entriesFrom_of_queue rfl
  | closeWindow l w => exact entriesFrom_of_idents (idents_report s.queue _)
  | dynamic => exact entriesFrom_of_idents (idents_dynamicPhase s.queue _ _ _)
  | minislot m => exact entriesFrom_of_idents (minislotStarts_idents m s)
  | spotEnd => exact entriesFrom_of_idents (finishSpotDue_idents s)
  | service => exact entriesFrom_of_queue (serviceWindow_queue s)
  | closing => exact entriesFrom_of_queue (by simp [beginClosing])
  | ends x f _ _ hf =>
    have hq : (grantAtEnd s.port (pollWriter (f (freePort s)))).queue = (f (freePort s)).queue := by simp
    obtain hs | ⟨b, tag, r, hi, hfind, hl⟩ := answers_entries hf (freePort s)
    · exact .inl (by rw [hq]; exact hs)
    · exact .inr ⟨b, tag, r, hq.trans hi, hfind, hl⟩
  | discarded => exact entriesFrom_of_queue (by rw [grantAtEnd_queue]; rfl)

/-! ## Bounds of the queue -/

theorem boards_eq (q : Queue) : q.entries.map Entry.board = (idents q).map Prod.fst := by
  simp [idents, ident, Function.comp_def]

/-- R93: a request is taken under a board index that the queue does not hold. -/
theorem not_mem_boards_of_find {q : Queue} {board : Nat} (h : q.find board = none) :
    board ∉ q.entries.map Entry.board := by
  simpa [Queue.find, List.find?_eq_none] using h

/-- R93: every move keeps the queue within its 16 places. -/
theorem move_queued {s t : State} (h : Move s t) (hs : s.queue.entries.length ≤ 16) : t.queue.entries.length ≤ 16 := by
  obtain hsub | ⟨b, tag, r, hq, -, hroom⟩ := move_entries h
  · have hle := hsub.length_le
    simp only [idents, List.length_map] at hle
    exact hle.trans hs
  · rw [hq]
    have hlen := (insertEntry_perm (newEntry b tag r s.timer.nextFrame s.queue.nextTake) s.queue.entries).length_eq
    simp only [Queue.insert, hlen, List.length_cons]
    exact hroom

/-- R93: every move keeps the board indexes apart. -/
theorem move_boards {s t : State} (h : Move s t) (hs : (s.queue.entries.map Entry.board).Nodup) :
    (t.queue.entries.map Entry.board).Nodup := by
  obtain hsub | ⟨b, tag, r, hq, hfind, -⟩ := move_entries h
  · rw [boards_eq] at hs ⊢
    exact hs.sublist (hsub.map Prod.fst)
  · rw [hq]
    have hperm := (insertEntry_perm (newEntry b tag r s.timer.nextFrame s.queue.nextTake) s.queue.entries).map Entry.board
    exact (hperm.nodup_iff).mpr (List.nodup_cons.mpr ⟨not_mem_boards_of_find hfind, hs⟩)

/-! ## Queue order (R94) -/

/-- R94: queue order, in the items that identify an entry. -/
def IdentPrecedes (a b : Nat × Byte × Word) : Prop :=
  a.2.1.toNat < b.2.1.toNat ∨ (a.2.1 = b.2.1 ∧ 0 < (b.2.2 - a.2.2).toNat ∧ (b.2.2 - a.2.2).toNat < 2147483648)

theorem queueOrdered_iff (s : State) : s.QueueOrdered ↔ (idents s.queue).Pairwise IdentPrecedes :=
  (List.pairwise_map (f := ident) (R := IdentPrecedes)).symm

/-- R94: a request just taken comes after a recent entry in serial order. -/
theorem not_serialBefore_of_recent {n a : Word} (h0 : 0 < (n - a).toNat) (h : (n - a).toNat < 2147483648) :
    serialBefore n a = false := by
  have : ¬ (a - n).toNat < 2147483648 := by
    rw [BitVec.toNat_sub] at h0 h ⊢
    omega
  simp [serialBefore, atOrAfter, -BitVec.toNat_sub, this]

/-- R94: with recent entries a new one goes before another exactly by priority. -/
theorem entryBefore_newest {e x : Entry} (h0 : 0 < (e.take - x.take).toNat) (h : (e.take - x.take).toNat < 2147483648) :
    entryBefore e x = decide (e.request.priority.toNat < x.request.priority.toNat) := by
  simp [entryBefore, not_serialBefore_of_recent h0 h]

/-- R94: the new entry joins at its place. -/
theorem insertEntry_ordered {e : Entry} {es : List Entry} (hes : es.Pairwise Entry.Precedes)
    (hnew : ∀ x ∈ es, 0 < (e.take - x.take).toNat ∧ (e.take - x.take).toNat < 2147483648) :
    (insertEntry e es).Pairwise Entry.Precedes := by
  induction es with
  | nil => exact List.pairwise_singleton _ _
  | cons x rest ih =>
    obtain ⟨hx, hrest⟩ := List.pairwise_cons.mp hes
    obtain ⟨hx0, hx1⟩ := hnew x List.mem_cons_self
    unfold insertEntry
    split
    · next hbefore =>
      rw [entryBefore_newest hx0 hx1, decide_eq_true_iff] at hbefore
      refine List.pairwise_cons.mpr ⟨fun y hy => .inl ?_, hes⟩
      obtain rfl | hy := List.mem_cons.mp hy
      · exact hbefore
      · obtain hlt | ⟨heq, -⟩ := hx y hy
        · exact hbefore.trans hlt
        · rw [← heq]; exact hbefore
    · next hbefore =>
      rw [entryBefore_newest hx0 hx1, decide_eq_true_iff] at hbefore
      refine List.pairwise_cons.mpr ⟨fun y hy => ?_, ih hrest fun y hy => hnew y (List.mem_cons_of_mem x hy)⟩
      obtain rfl | hy := List.mem_cons.mp ((insertEntry_perm e rest).mem_iff.mp hy)
      · obtain hlt | heq := Nat.lt_or_eq_of_le (Nat.le_of_not_lt hbefore)
        · exact .inl hlt
        · exact .inr ⟨BitVec.eq_of_toNat_eq heq, hx0, hx1⟩
      · exact hx y hy

/-- R94: every move keeps queue order while the take sequences held are recent. -/
theorem move_ordered {s t : State} (h : Move s t) (ho : s.QueueOrdered) (hr : s.queue.TakesRecent) : t.QueueOrdered := by
  obtain hsub | ⟨b, tag, r, hq, -, -⟩ := move_entries h
  · rw [queueOrdered_iff] at ho ⊢
    exact ho.sublist hsub
  · rw [State.QueueOrdered, hq]
    exact insertEntry_ordered ho hr

/-! ## The FINISHED entries in take order (R128) -/

theorem insertByTake_perm (e : Entry) (es : List Entry) : (insertByTake e es).Perm (e :: es) := by
  induction es with
  | nil => exact .refl _
  | cons x rest ih =>
    unfold insertByTake
    split
    · exact .refl _
    · exact (ih.cons x).trans (.swap e x rest)

theorem foldr_insertByTake_perm (es : List Entry) : (es.foldr insertByTake []).Perm es := by
  induction es with
  | nil => exact .refl _
  | cons e rest ih => exact (insertByTake_perm e _).trans (ih.cons e)

/-- How long ago a request was taken, in takes. -/
def age (n : Word) (e : Entry) : Nat := (n - e.take).toNat

/-- R94: among recent entries the serial order is that of their ages. -/
theorem serialBefore_iff_age {n : Word} {a b : Entry} (ha : age n a < 2147483648) (hb : age n b < 2147483648) :
    serialBefore a.take b.take = true ↔ age n b < age n a := by
  have hne : a.take = b.take ↔ a.take.toNat = b.take.toNat := BitVec.toNat_eq
  simp only [serialBefore, atOrAfter, Bool.and_eq_true, decide_eq_true_eq, bne_iff_ne, ne_eq, hne, age,
    BitVec.toNat_sub] at ha hb ⊢
  omega

/-- R94: of two recent entries the older, or the same, is at most 2^31 takes before. -/
theorem sub_take_lt_of_age_le {n : Word} {a b : Entry} (ha : age n a < 2147483648) (h : age n b ≤ age n a) :
    (b.take - a.take).toNat < 2147483648 := by
  simp only [age, BitVec.toNat_sub] at ha h ⊢
  omega

/-- R128: insertion by take sequence keeps recent entries from the oldest to the newest. -/
theorem insertByTake_sorted {n : Word} {e : Entry} {es : List Entry} (he : age n e < 2147483648)
    (hes : ∀ x ∈ es, age n x < 2147483648) (h : es.Pairwise fun a b => age n b ≤ age n a) :
    (insertByTake e es).Pairwise fun a b => age n b ≤ age n a := by
  induction es with
  | nil => exact List.pairwise_singleton _ _
  | cons x rest ih =>
    obtain ⟨hx, hrest⟩ := List.pairwise_cons.mp h
    have hxr := hes x List.mem_cons_self
    unfold insertByTake
    split
    · next hb =>
      have hlt := (serialBefore_iff_age he hxr).mp hb
      refine List.pairwise_cons.mpr ⟨fun y hy => ?_, h⟩
      obtain rfl | hy := List.mem_cons.mp hy
      · exact hlt.le
      · exact (hx y hy).trans hlt.le
    · next hb =>
      have hle := Nat.le_of_not_lt (mt (serialBefore_iff_age he hxr).mpr hb)
      refine List.pairwise_cons.mpr ⟨fun y hy => ?_, ih (fun y hy => hes y (List.mem_cons_of_mem x hy)) hrest⟩
      obtain rfl | hy := List.mem_cons.mp ((insertByTake_perm e rest).mem_iff.mp hy)
      · exact hle
      · exact hx y hy

theorem foldr_insertByTake_sorted {n : Word} {es : List Entry} (h : ∀ x ∈ es, age n x < 2147483648) :
    (es.foldr insertByTake []).Pairwise fun a b => age n b ≤ age n a := by
  induction es with
  | nil => exact .nil
  | cons e rest ih =>
    have hrest : ∀ x ∈ rest, age n x < 2147483648 := fun x hx => h x (List.mem_cons_of_mem e hx)
    refine insertByTake_sorted (h e List.mem_cons_self) (fun x hx => ?_) (ih hrest)
    exact hrest x ((foldr_insertByTake_perm rest).mem_iff.mp hx)

/-- R128: the post list is taken from the FINISHED entries in ascending take sequence. -/
theorem finishedByTake_sorted {q : Queue} (hr : q.TakesRecent) :
    ∃ es : List Entry, es.Perm (q.entries.filter fun e => e.status == .finished)
      ∧ es.Pairwise (fun a b => (b.take - a.take).toNat < 2147483648) ∧ q.finishedByTake = es.map Entry.board := by
  let finished := q.entries.filter fun e => e.status == .finished
  have hage : ∀ x ∈ finished, age q.nextTake x < 2147483648 := fun x hx => (hr x (List.mem_filter.mp hx).1).2
  refine ⟨finished.foldr insertByTake [], foldr_insertByTake_perm _, ?_, rfl⟩
  refine (foldr_insertByTake_sorted hage).imp_of_mem fun {a b} ha _ hle => ?_
  exact sub_take_lt_of_age_le (hage a ((foldr_insertByTake_perm finished).mem_iff.mp ha)) hle

end Sys2Proof.Proofs.EveryStepBounds
end

section
/-! PROOFS. The bounds that every step keeps: the frame numbers (R2), the score (R151), staging (R112), XBASE (R172), the post
list (R128); and the statement. -/

namespace Sys2Proof.Proofs.EveryStepKeeps

open Sys2Proof Sys2Proof.Machine Sys2Proof.Proofs.EngineControl Sys2Proof.Proofs.PortGrants Sys2Proof.Proofs.FrameEnds
open Sys2Proof.Proofs.Runs Sys2Proof.Proofs.RunStarts Sys2Proof.Proofs.Moves Sys2Proof.Proofs.Bounds
open Sys2Proof.Proofs.EveryStepBounds

/-! ## What a spot action's start and end leave -/

@[simp] theorem finishSpotDue_timer (s : State) : (finishSpotDue s).timer = s.timer := by
  unfold finishSpotDue; cases spotDue s <;> rfl
@[simp] theorem finishSpotDue_control (s : State) : (finishSpotDue s).control = s.control := by
  unfold finishSpotDue; cases spotDue s <;> rfl
@[simp] theorem finishSpotDue_store (s : State) : (finishSpotDue s).store = s.store := by
  unfold finishSpotDue; cases spotDue s <;> rfl
@[simp] theorem finishSpotDue_static (s : State) : (finishSpotDue s).static = s.static := by
  unfold finishSpotDue; cases spotDue s <;> rfl
@[simp] theorem finishSpotDue_loader (s : State) : (finishSpotDue s).loader = s.loader := by
  unfold finishSpotDue; cases spotDue s <;> rfl
@[simp] theorem finishSpotDue_staging (s : State) : (finishSpotDue s).staging = s.staging := by
  unfold finishSpotDue; cases spotDue s <;> rfl
@[simp] theorem finishSpotDue_writer (s : State) : (finishSpotDue s).writer = s.writer := by
  unfold finishSpotDue; cases spotDue s <;> rfl
@[simp] theorem finishSpotDue_service (s : State) : (finishSpotDue s).service = s.service := by
  unfold finishSpotDue; cases spotDue s <;> rfl
@[simp] theorem finishSpotDue_port (s : State) : (finishSpotDue s).port = s.port := by
  unfold finishSpotDue; cases spotDue s <;> rfl
@[simp] theorem finishSpotDue_health (s : State) : (finishSpotDue s).health = s.health := by
  unfold finishSpotDue; cases spotDue s <;> rfl
@[simp] theorem finishSpotDue_outside (s : State) : (finishSpotDue s).outside = s.outside := by
  unfold finishSpotDue; cases spotDue s <;> rfl
@[simp] theorem finishSpotDue_now (s : State) : (finishSpotDue s).now = s.now := by
  unfold finishSpotDue; cases spotDue s <;> rfl
@[simp] theorem finishSpotDue_pending (s : State) : (finishSpotDue s).pending = s.pending := by
  unfold finishSpotDue; cases spotDue s <;> rfl

/-- R30, R102: a minislot start moves the position, and the start of a placed entry changes the queue and a cell, or offers a
MARK to staging: `u` differs from `s` in its position, its queue and its cells, and the MARK's record is offered to it. -/
theorem minislotStarts_cases (m : Nat) (s : State) :
    ∃ v q, minislotStarts m s = { enterMinislot m s with cells := v, queue := q }
      ∨ ∃ p body, body.undoneByHalt = true
        ∧ minislotStarts m s = settlePort (offer [body] p { enterMinislot m s with cells := v, queue := q }) := by
  have hdue : ∃ v q, finishSpotDue (enterMinislot m s) = { enterMinislot m s with cells := v, queue := q } := by
    unfold finishSpotDue
    cases spotDue (enterMinislot m s) with
    | none => exact ⟨_, _, rfl⟩
    | some a => exact ⟨_, _, rfl⟩
  obtain ⟨v, q, hv⟩ := hdue
  unfold minislotStarts startPlaced
  rw [hv]
  cases Queue.startingAt _ m with
  | none => exact ⟨v, q, .inl rfl⟩
  | some e =>
    simp only [Option.elim_some]
    unfold startSpot
    dsimp only
    split
    · exact ⟨_, _, .inr ⟨_, _, rfl, rfl⟩⟩
    · exact ⟨_, _, .inl rfl⟩
    · exact ⟨_, _, .inl rfl⟩

/-! ## The frame numbers (R2) -/

/-- R2: the next frame number is one more than the current. -/
def Numbered (t : Timer) : Prop := t.nextFrame = t.current + 1

theorem numbered_of_eq {t u : Timer} (h : Numbered t) (hn : u.nextFrame = t.nextFrame) (hc : u.current = t.current) :
    Numbered u := by
  rw [Numbered, hn, hc]
  exact h

theorem numbered_frameStart (change : Option RecordBody) (returning : Bool) (s : State) :
    Numbered (frameStart change returning s).timer := rfl

theorem numbered_reset : Numbered Timer.reset := by
  show (0 : Word) = 4294967295 + 1
  decide

theorem numbered_frameEnd {s : State} (h : Numbered s.timer) (missing : Bool) : Numbered (frameEnd missing s).timer := by
  have he : Numbered (endedFrame missing s).timer := h
  rw [frameEnd_eq]
  unfold afterSettlement
  cases (s.endingSettlement missing).engine with
  | running => exact numbered_frameStart _ _ _
  | held => exact numbered_frameStart _ _ _
  | armed => exact he
  | halted => exact he
  | idle => exact he
  | loading => exact he
  | syncWait => exact he

theorem minislotStarts_timer (m : Nat) (s : State) : (minislotStarts m s).timer = { s.timer with phase := .dynamic m } := by
  obtain ⟨v, q, h | ⟨p, body, -, h⟩⟩ := minislotStarts_cases m s
  · rw [h]; rfl
  · rw [h, settlePort_timer]; rfl

theorem serviceWindow_timer (s : State) : (serviceWindow s).timer = { s.timer with phase := .service } := by
  unfold serviceWindow
  dsimp only
  split
  · rw [grantFree_timer]; rfl
  all_goals rfl

theorem sampleLines_timer (ls : List Line) (s : State) : (sampleLines ls s).timer = s.timer := by
  induction ls generalizing s with
  | nil => rfl
  | cons l ls ih => exact (ih (sampleLine l s)).trans (sampleLine_timer l s)

/-- R2: every move keeps the frame numbers one apart. -/
theorem move_numbered {s t : State} (h : Move s t) (hs : Numbered s.timer) : Numbered t.timer := by
  cases h with
  | stays => exact hs
  | reset => exact numbered_reset
  | refused => exact hs
  | load => rw [takeLoad, grantFree_timer]; exact numbered_reset
  | startInternal => rw [settlePort_timer]; exact numbered_frameStart _ _ _
  | startExternal => exact hs
  | stopPends => exact hs
  | stopInSyncWait => rw [stopInSyncWait, settlePort_timer]; exact hs
  | resume => exact hs
  | halt => exact hs
  | haltAgain => exact hs
  | clear => exact hs
  | xbase => exact hs
  | cause => exact hs
  | mask => exact hs
  | sample => exact hs
  | firstEdge => rw [firstEdge, settlePort_timer]; exact numbered_frameStart _ _ _
  | earlyEdge => exact hs
  | frameEnd missing u hu =>
    have hu : Numbered u.timer := by obtain rfl | ⟨level, rfl⟩ := hu <;> exact hs
    rw [settlePort_timer]
    exact numbered_frameEnd hu missing
  | lineEdge => rw [settlePort_timer, sampleLines_timer]; exact hs
  | instant t _ hn hc => exact numbered_of_eq hs hn hc
  | lines => exact hs
  | closeWindow => exact hs
  | dynamic => exact hs
  | minislot => rw [minislotStarts_timer]; exact hs
  | spotEnd => rw [finishSpotDue_timer]; exact hs
  | service => rw [serviceWindow_timer]; exact hs
  | closing => rw [grantFree_timer]; exact hs
  | ends x f _ _ hf =>
    rw [grantAtEnd_timer, pollWriter_timer, (answers_frame hf (freePort s)).timer]
    exact hs
  | discarded => rw [grantAtEnd_timer]; exact hs

/-! ## The score (R151) -/

theorem sampleLines_score (ls : List Line) (s : State) : (sampleLines ls s).health.score = s.health.score := by
  induction ls generalizing s with
  | nil => rfl
  | cons l ls ih => exact (ih (sampleLine l s)).trans rfl

theorem minislotStarts_score (m : Nat) (s : State) : (minislotStarts m s).health.score = s.health.score := by
  obtain ⟨v, q, h | ⟨p, body, -, h⟩⟩ := minislotStarts_cases m s
  · rw [h]; rfl
  · rw [h, settlePort_health]; rfl

theorem serviceWindow_health (s : State) : (serviceWindow s).health = s.health := by
  unfold serviceWindow
  dsimp only
  split <;> simp

theorem earlyEdge_score (s : State) : (earlyEdge s).health.score = s.health.score := by
  unfold earlyEdge
  dsimp only
  split <;> rfl

/-- R151: every move keeps the score at most 255. -/
theorem move_score {s t : State} (h : Move s t) (hs : s.health.score ≤ 255) : t.health.score ≤ 255 := by
  cases h with
  | stays => exact hs
  | reset => exact Nat.zero_le _
  | refused => exact hs
  | load => rw [takeLoad, grantFree_health]; exact Nat.zero_le _
  | startInternal => rw [settlePort_health]; exact Nat.zero_le _
  | startExternal => exact Nat.zero_le _
  | stopPends => exact hs
  | stopInSyncWait => rw [stopInSyncWait, settlePort_health]; exact hs
  | resume => exact hs
  | halt => exact hs
  | haltAgain => exact hs
  | clear => exact Nat.zero_le _
  | xbase => exact hs
  | cause => exact hs
  | mask => exact hs
  | sample => exact hs
  | firstEdge => rw [firstEdge, settlePort_health]; exact hs
  | earlyEdge => rw [earlyEdge_score]; exact hs
  | frameEnd missing u hu =>
    have hu : u.health.score ≤ 255 := by obtain rfl | ⟨level, rfl⟩ := hu <;> exact hs
    rw [settlePort_health, FrameScore.frameEnd_score]
    exact FrameScore.scoreAfter_le hu _ _
  | lineEdge => rw [settlePort_health, sampleLines_score]; exact hs
  | instant => exact hs
  | lines => exact hs
  | closeWindow => exact hs
  | dynamic => exact hs
  | minislot => rw [minislotStarts_score]; exact hs
  | spotEnd => rw [finishSpotDue_health]; exact hs
  | service => rw [serviceWindow_health]; exact hs
  | closing => rw [grantFree_health]; exact hs
  | ends x f _ _ hf =>
    rw [grantAtEnd_health, pollWriter_health, (answers_frame hf (freePort s)).score]
    exact hs
  | discarded => rw [grantAtEnd_health]; exact hs

/-! ## XBASE (R172) -/

/-- R172: XBASE is a multiple of 64. -/
def Aligned (c : Control) : Prop := c.xbase.extractLsb' 0 6 = 0

theorem aligned_of_eq {c d : Control} (h : Aligned c) (he : d.xbase = c.xbase) : Aligned d := by
  rw [Aligned, he]
  exact h

/-- R172: the mask of a write to XBASE_LO has no bit among the six lowest. -/
theorem xbaseMask_low {i : Nat} (h : i < 6) : (0xFFFFFFC0#32).getLsbD i = false :=
  (by decide : ∀ j : Fin 6, (0xFFFFFFC0#32).getLsbD j.val = false) ⟨i, h⟩

/-- R172: the six lowest bits of a written base are dropped. -/
theorem writeXbase_aligned {c : Control} (h : Aligned c) (high : Bool) (w : Word) : Aligned (c.writeXbase high w) := by
  unfold Control.writeXbase
  split
  · refine BitVec.eq_of_getLsbD_eq fun i hi => ?_
    have hi32 : i < 32 := by omega
    have hlow : c.xbase.getLsbD i = false := by
      have := congrArg (fun x : BitVec 6 => x.getLsbD i) h
      simpa [hi] using this
    cases high with
    | true =>
      have : (w ++ c.xbase.extractLsb' 0 32).getLsbD i = false := by
        rw [BitVec.getLsbD_append]
        simp [hi32, hlow]
      simpa [hi] using this
    | false =>
      have : (c.xbase.extractLsb' 32 32 ++ (w &&& 0xFFFFFFC0#32)).getLsbD i = false := by
        rw [BitVec.getLsbD_append, BitVec.getLsbD_and, xbaseMask_low hi]
        simp [hi32]
      simpa [hi] using this
  · exact h

@[simp] theorem halted_xbase (c : Control) : c.halted.xbase = c.xbase := by
  unfold Control.halted
  cases c.pending <;> rfl

theorem serviceFrameEnd_xbase (s : State) : (serviceFrameEnd s).control.xbase = s.control.xbase := by
  simp [serviceFrameEnd_control]

theorem frameEnd_xbase (missing : Bool) (s : State) : (frameEnd missing s).control.xbase = s.control.xbase := by
  obtain ⟨b, hb⟩ := afterSettlement_control (s.endingSettlement missing) (s.control.engine == .held)
    (endedFrame missing s)
  rw [frameEnd_eq, hb]
  simp [serviceFrameEnd_xbase]

theorem sampleLines_control (ls : List Line) (s : State) : (sampleLines ls s).control = s.control := by
  induction ls generalizing s with
  | nil => rfl
  | cons l ls ih => exact (ih (sampleLine l s)).trans (sampleLine_control l s)

theorem minislotStarts_control (m : Nat) (s : State) : (minislotStarts m s).control = s.control := by
  obtain ⟨v, q, h | ⟨p, body, -, h⟩⟩ := minislotStarts_cases m s
  · rw [h]; rfl
  · rw [h, settlePort_control]; rfl

theorem serviceWindow_control (s : State) : (serviceWindow s).control = s.control := by
  unfold serviceWindow
  dsimp only
  split <;> simp

/-- R172: every move keeps XBASE a multiple of 64. -/
theorem move_aligned {s t : State} (h : Move s t) (hs : Aligned s.control) : Aligned t.control := by
  cases h with
  | stays => exact hs
  | reset => exact (by decide : (0 : Addr).extractLsb' 0 6 = 0)
  | refused => exact hs
  | load => rw [takeLoad, grantFree_control]; exact hs
  | startInternal => rw [settlePort_control]; exact aligned_of_eq hs (by simp [startInternal])
  | startExternal => exact hs
  | stopPends => exact hs
  | stopInSyncWait => rw [stopInSyncWait, settlePort_control]; exact hs
  | resume => exact hs
  | halt => exact aligned_of_eq hs (halted_xbase _)
  | haltAgain => exact hs
  | clear => exact hs
  | xbase high w => exact writeXbase_aligned hs high w
  | cause => exact hs
  | mask => exact hs
  | sample => exact hs
  | firstEdge => rw [firstEdge, settlePort_control]; exact aligned_of_eq hs (by simp)
  | earlyEdge => exact hs
  | frameEnd missing u hu =>
    have hu : Aligned u.control := by obtain rfl | ⟨level, rfl⟩ := hu <;> exact hs
    rw [settlePort_control]
    exact aligned_of_eq hu (frameEnd_xbase missing u)
  | lineEdge => rw [settlePort_control, sampleLines_control]; exact hs
  | instant => exact hs
  | lines => exact hs
  | closeWindow => exact hs
  | dynamic => exact hs
  | minislot => rw [minislotStarts_control]; exact hs
  | spotEnd => rw [finishSpotDue_control]; exact hs
  | service => rw [serviceWindow_control]; exact hs
  | closing => rw [grantFree_control]; exact hs
  | ends x f _ _ hf =>
    refine aligned_of_eq hs ?_
    rw [grantAtEnd_control, pollWriter_control]
    exact (answers_frame hf (freePort s)).xbase
  | discarded => rw [grantAtEnd_control]; exact hs

/-! ## Staging (R112) -/

/-- Staging holds at most its 32 places. -/
def Fits (st : Staging) : Prop := st.records.length ≤ 32

theorem fits_offer {s : State} (h : Fits s.staging) (bs : List RecordBody) (p : Word × Nat) :
    Fits (offer bs p s).staging := offerAll_length_le h _ _ _

theorem fits_empty {st : Staging} (h : st.records = []) : Fits st := by simp [Fits, h]

theorem fits_frameStart {s : State} (h : Fits s.staging) (change : Option RecordBody) (returning : Bool) :
    Fits (frameStart change returning s).staging := offerAll_length_le h _ _ _

theorem fits_frameEnd {s : State} (h : Fits s.staging) (missing : Bool) : Fits (frameEnd missing s).staging := by
  have he : Fits (endedFrame missing s).staging := h
  rw [frameEnd_eq]
  unfold afterSettlement
  cases (s.endingSettlement missing).engine with
  | running => exact fits_frameStart he _ _
  | held => exact fits_frameStart he _ _
  | armed => exact offerAll_length_le he _ _ _
  | halted => exact offerAll_length_le he _ _ _
  | idle => exact he
  | loading => exact he
  | syncWait => exact he

theorem fits_sampleLines {s : State} (h : Fits s.staging) (ls : List Line) : Fits (sampleLines ls s).staging := by
  induction ls generalizing s with
  | nil => exact h
  | cons l ls ih => exact ih (s := sampleLine l s) (offerAll_length_le h _ _ _)

theorem serviceWindow_staging (s : State) : (serviceWindow s).staging = s.staging := by
  unfold serviceWindow
  dsimp only
  split <;> simp

theorem setupReturns_staging (bs : List Byte) (s : State) : (setupReturns bs s).staging = s.staging := by
  unfold setupReturns
  dsimp only
  split <;> rfl

theorem loadHostControlReturns_staging (bs : List Byte) (s : State) :
    (loadHostControlReturns bs s).staging = s.staging := by
  unfold loadHostControlReturns
  dsimp only
  split <;> simp

theorem handleEntry_staging (i : Nat) (bs : List Byte) (s : State) : (handleEntry i bs s).staging = s.staging := by
  unfold handleEntry postedHeld takePosted cancelRead
  repeat' split
  all_goals simp

theorem failureHanded_staging (d : PlanDetail) {k : TransferKind} (h : k ≠ .journalWrite) (s : State) :
    (failureHanded d k s).staging = s.staging := by
  cases k with
  | journalWrite => exact absurd rfl h
  | setupRead => rfl
  | hostControlRead => rfl
  | stepARead => simp [failureHanded]
  | planRead => simp [failureHanded]
  | boardRead => simp [failureHanded]
  | resultWrite => simp [failureHanded]
  | stateWrite => simp [failureHanded]
  | statusFirst => simp [failureHanded]
  | statusSecond => simp [failureHanded]

/-- R117, R118: only the end of a journal write touches staging. -/
theorem answers_staging {x : Transfer} {f : State → State} (h : Answers x f) (u : State) :
    (f u).staging = u.staging
      ∨ (x.kind = .journalWrite ∧ ((f u).staging = u.staging.dropHead.judge
        ∨ (f u).staging = u.staging.dropHead.lose.judge)) := by
  cases h with
  | setupRead data _ => exact .inl (setupReturns_staging data u)
  | hostControl data _ => exact .inl (loadHostControlReturns_staging data u)
  | stepA data _ => exact .inl (by simp [stepAReturns])
  | planRead data _ => exact .inl (by simp)
  | boardRead i data _ => exact .inl (handleEntry_staging i data u)
  | resultWrite i r w _ => exact .inl (by simp)
  | stateWrite i w _ => exact .inl (by simp [stateWordDone])
  | statusFirst _ => exact .inl (by simp [statusFirstDone])
  | statusSecond _ => exact .inl (by simp [statusSecondDone])
  | journalWrite hk => exact .inr ⟨hk, .inl rfl⟩
  | failure d =>
    by_cases hk : x.kind = .journalWrite
    · exact .inr ⟨hk, .inr (by rw [hk]; rfl)⟩
    · exact .inl (failureHanded_staging d hk (countFailure u))

/-- R112: every move keeps staging within its 32 places. -/
theorem move_fits {s t : State} (h : Move s t) (hs : Fits s.staging) : Fits t.staging := by
  cases h with
  | stays => exact hs
  | reset => exact fits_empty rfl
  | refused => exact hs
  | load => rw [takeLoad, grantFree_staging]; exact fits_empty rfl
  | startInternal => rw [settlePort_staging]; exact fits_frameStart (s := startShared .running s) hs _ _
  | startExternal => exact hs
  | stopPends => exact hs
  | stopInSyncWait => rw [stopInSyncWait, settlePort_staging]; exact offerAll_length_le hs _ _ _
  | resume => exact hs
  | halt => exact fits_empty rfl
  | haltAgain => exact hs
  | clear => exact fits_empty rfl
  | xbase => exact hs
  | cause => exact hs
  | mask => exact hs
  | sample => exact hs
  | firstEdge => rw [firstEdge, settlePort_staging]; exact offerAll_length_le hs _ _ _
  | earlyEdge => exact hs
  | frameEnd missing u hu =>
    have hu : Fits u.staging := by obtain rfl | ⟨level, rfl⟩ := hu <;> exact hs
    rw [settlePort_staging]
    exact fits_frameEnd hu missing
  | lineEdge levels =>
    rw [settlePort_staging]
    exact fits_sampleLines (s := { s with outside := { s.outside with lines := levels } }) hs _
  | instant => exact hs
  | lines => exact hs
  | closeWindow => exact hs
  | dynamic => exact hs
  | minislot m =>
    obtain ⟨v, q, h | ⟨p, body, -, h⟩⟩ := minislotStarts_cases m s
    · rw [h]; exact hs
    · rw [h, settlePort_staging]; exact offerAll_length_le hs _ _ _
  | spotEnd => rw [finishSpotDue_staging]; exact hs
  | service => rw [serviceWindow_staging]; exact hs
  | closing => rw [grantFree_staging]; exact hs
  | ends x f _ _ hf =>
    rw [grantAtEnd_staging, pollWriter_staging]
    obtain he | ⟨-, he | he⟩ := answers_staging hf (freePort s)
    · rw [he]; exact hs
    · rw [he]; exact judge_length_le (dropHead_length_le hs)
    · rw [he]; exact judge_length_le (dropHead_length_le (st := s.staging) hs)
  | discarded => rw [grantAtEnd_staging]; exact hs

/-! ## The post list (R128) -/

/-- R128: the post list is what is left of the one before, or is left of the FINISHED entries. -/
def PostsFrom (s t : State) : Prop :=
  t.service.postList <:+ s.service.postList ∨ t.service.postList <:+ s.queue.finishedByTake

theorem postsFrom_of_eq {s t : State} (h : t.service.postList = s.service.postList) : PostsFrom s t :=
  .inl (h ▸ List.suffix_refl _)

theorem postsFrom_of_nil {s t : State} (h : t.service.postList = []) : PostsFrom s t :=
  .inl (h ▸ List.nil_suffix)

theorem SameWork.postList {v w : Service} (h : v.SameWork w) : w.postList = v.postList := h.2.2.1

theorem grantFree_postList (s : State) : (grantFree s).service.postList = s.service.postList :=
  SameWork.postList (grantFree_sameWork s)

theorem settlePort_postList (s : State) : (settlePort s).service.postList = s.service.postList :=
  SameWork.postList (settlePort_sameWork s)

theorem grantAtEnd_postList (b : Port) (s : State) : (grantAtEnd b s).service.postList = s.service.postList :=
  SameWork.postList (grantAtEnd_sameWork b s)

theorem serviceFree_postList (s : State) :
    (serviceFree s).service.postList = s.service.postList ∨ (serviceFree s).service.postList = [] := by
  unfold serviceFree
  dsimp only
  split
  · exact .inl rfl
  · split
    · exact .inr rfl
    · exact .inl rfl

theorem scanNext_postList (s : State) : (scanNext s).service.postList = s.service.postList := by
  unfold scanNext
  split <;> rfl

theorem beginScan_postList (s : State) : (beginScan s).service.postList = [] :=
  scanNext_postList _

/-- R128: step B goes on with what is left of its list. -/
theorem postFrom_postList (l : List Nat) (s : State) : (postFrom l s).service.postList <:+ l := by
  induction l with
  | nil =>
    have h : (postFrom [] s).service.postList = [] := beginScan_postList s
    rw [h]
  | cons i rest ih =>
    unfold postFrom
    split
    · exact List.suffix_refl _
    · exact ih.trans (List.suffix_cons i rest)

theorem postsFrom_serviceFree (s : State) : PostsFrom s (serviceFree s) := by
  obtain h | h := serviceFree_postList s
  · exact postsFrom_of_eq h
  · exact postsFrom_of_nil h

/-- The post list as seen from a state that has the same one and the same queue. -/
theorem postsFrom_of_from {s t u : State} (h : PostsFrom t u) (hp : t.service.postList = s.service.postList)
    (hq : t.queue = s.queue) : PostsFrom s u := by
  rw [PostsFrom, hp, hq] at h
  exact h

/-- The post list alone, as seen from a state that has the same one. -/
theorem suffix_unitEnds (s : State) : (unitEnds s).service.postList <:+ s.service.postList := by
  unfold unitEnds
  split
  · split
    · exact (postFrom_postList _ s).trans (List.tail_suffix _)
    · rw [scanNext_postList]
    · exact List.suffix_refl _
    · exact List.suffix_refl _
  · obtain h | h := serviceFree_postList s
    · rw [h]
    · rw [h]; exact List.nil_suffix
  all_goals exact List.suffix_refl _

end Sys2Proof.Proofs.EveryStepKeeps
end

section
/-! PROOFS. The Service Unit at work (R126 to R136): what the operations that go on with a pass, a tail or a status write can
do, said once. -/

namespace Sys2Proof.Proofs.ServiceWork

open Sys2Proof Sys2Proof.Machine Sys2Proof.Proofs.PortGrants Sys2Proof.Proofs.Moves Sys2Proof.Proofs.EveryStepKeeps

/-! ## Going on with the work -/

/-- The transfers that the Service Unit asks for of its own: those of a pass and of a status write, and none of LOAD's reads. -/
def WorkKind (k : TransferKind) : Prop := k.isLoadRead = false ∧ k ≠ .journalWrite ∧ k ≠ .planRead

/-- The Service Unit goes on: it changes its own items, and asks for one of its transfers or leaves its slot as it was. Idle, it
stays so. -/
structure WorksOn (s t : State) : Prop where
  rest : t = { s with service := t.service, port := { s.port with service := t.port.service } }
  request : t.port.service = s.port.service ∨ ∃ w, t.port.service = some w ∧ WorkKind w.kind
  idle : s.service.activity = .none → t.service.activity = .none
  posts : PostsFrom s t

theorem WorksOn.rfl {s : State} : WorksOn s s := ⟨Eq.refl _, .inl (Eq.refl _), id, postsFrom_of_eq (Eq.refl _)⟩

theorem WorksOn.queue {s t : State} (h : WorksOn s t) : t.queue = s.queue := by rw [h.rest]
theorem WorksOn.control {s t : State} (h : WorksOn s t) : t.control = s.control := by rw [h.rest]
theorem WorksOn.store {s t : State} (h : WorksOn s t) : t.store = s.store := by rw [h.rest]
theorem WorksOn.loader {s t : State} (h : WorksOn s t) : t.loader = s.loader := by rw [h.rest]
theorem WorksOn.writer {s t : State} (h : WorksOn s t) : t.writer = s.writer := by rw [h.rest]
theorem WorksOn.staging {s t : State} (h : WorksOn s t) : t.staging = s.staging := by rw [h.rest]
theorem WorksOn.port {s t : State} (h : WorksOn s t) : t.port = { s.port with service := t.port.service } := by
  rw [h.rest]

theorem WorksOn.trans {s t u : State} (h : WorksOn s t) (k : WorksOn t u) : WorksOn s u where
  rest := by rw [k.rest, h.rest]
  request := by
    obtain hk | hk := k.request
    · rw [hk]; exact h.request
    · exact .inr hk
  idle hs := k.idle (h.idle hs)
  posts := by
    obtain hk | hk := k.posts
    · obtain hh | hh := h.posts
      · exact .inl (hk.trans hh)
      · exact .inr (hk.trans hh)
    · rw [h.queue] at hk
      exact .inr hk

/-- A change of the Service Unit's items that leaves its activity and its post list. -/
theorem worksOn_items {s : State} (v : Service) (ha : s.service.activity = .none → v.activity = .none)
    (hp : v.postList = s.service.postList ∨ v.postList = []) : WorksOn s { s with service := v } where
  rest := rfl
  request := .inl rfl
  idle := ha
  posts := by
    obtain hp | hp := hp
    · exact postsFrom_of_eq hp
    · exact postsFrom_of_nil hp

theorem worksOn_request {k : TransferKind} (hk : WorkKind k) (o n : Nat) (s : State) :
    WorksOn s (requestService k o n s) where
  rest := rfl
  request := .inr ⟨_, rfl, hk⟩
  idle := id
  posts := postsFrom_of_eq rfl

theorem workKind_stepARead : WorkKind .stepARead := ⟨rfl, nofun, nofun⟩
theorem workKind_boardRead (i : Nat) : WorkKind (.boardRead i) := ⟨rfl, nofun, nofun⟩
theorem workKind_resultWrite (i : Nat) (r : ResultFields) (w : StateWord) : WorkKind (.resultWrite i r w) :=
  ⟨rfl, nofun, nofun⟩
theorem workKind_stateWrite (i : Nat) (w : StateWord) : WorkKind (.stateWrite i w) := ⟨rfl, nofun, nofun⟩
theorem workKind_statusFirst : WorkKind .statusFirst := ⟨rfl, nofun, nofun⟩
theorem workKind_statusSecond : WorkKind .statusSecond := ⟨rfl, nofun, nofun⟩

theorem requestResult_works (i : Nat) (r : ResultFields) (w : StateWord) (s : State) :
    WorksOn s (requestResult i r w s) := worksOn_request (workKind_resultWrite i r w) _ _ s

theorem requestState_works (i : Nat) (w : StateWord) (s : State) : WorksOn s (requestState i w s) :=
  worksOn_request (workKind_stateWrite i w) _ _ s

theorem beginStatus_works (s : State) : WorksOn s (beginStatus s) :=
  (worksOn_items (s := s) { s.service with step := .d, unit := .none } id (.inl rfl)).trans
    (worksOn_request workKind_statusFirst _ _ _)

theorem scanNext_works (s : State) : WorksOn s (scanNext s) := by
  unfold scanNext
  split
  · exact (worksOn_items (s := s) { s.service with unit := .none } id (.inl rfl)).trans
      (worksOn_request (workKind_boardRead _) _ _ _)
  · exact beginStatus_works s

theorem beginScan_works (s : State) : WorksOn s (beginScan s) :=
  (worksOn_items (s := s) { s.service with step := .c, postList := [], unit := .none } id (.inr rfl)).trans
    (scanNext_works _)

/-- R88, R128: step B asks for the result write of an entry of its list, or ends. -/
theorem postFrom_works (l : List Nat) (s : State) (h : l <:+ s.service.postList ∨ l <:+ s.queue.finishedByTake) :
    WorksOn s (postFrom l s) := by
  induction l with
  | nil => exact beginScan_works s
  | cons i rest ih =>
    unfold postFrom
    split
    · next e he =>
      exact
        { rest := rfl
          request := .inr ⟨_, rfl, workKind_resultWrite _ _ _⟩
          idle := id
          posts := h }
    · exact ih (h.imp (List.suffix_cons i rest).trans (List.suffix_cons i rest).trans)

/-- R126, R136: with something in progress, its end leaves a closing write, an owed pass or nothing. -/
theorem serviceFree_works {s : State} (h : s.service.activity ≠ .none) : WorksOn s (serviceFree s) := by
  unfold serviceFree
  dsimp only
  split
  · exact worksOn_items _ (fun ha => absurd ha h) (.inl rfl)
  · split
    · exact
        { rest := rfl
          request := .inr ⟨_, rfl, workKind_stepARead⟩
          idle := fun ha => absurd ha h
          posts := postsFrom_of_nil rfl }
    · exact worksOn_items _ (fun _ => rfl) (.inl rfl)

/-- R128, R129, R133: the end of a unit. -/
theorem unitEnds_works (s : State) : WorksOn s (unitEnds s) := by
  unfold unitEnds
  split
  · split
    · exact postFrom_works _ s (.inl (List.tail_suffix _))
    · exact (worksOn_items (s := s) { s.service with boardPos := s.service.boardPos + 1 } id (.inl rfl)).trans
        (scanNext_works _)
    · exact .rfl
    · exact .rfl
  · next ha => exact serviceFree_works (by simp [ha])
  · exact .rfl
  · exact .rfl
  · exact .rfl

theorem beginPosting_works (s : State) : WorksOn s (beginPosting s) :=
  (worksOn_items (s := s) { s.service with step := .b } id (.inl rfl)).trans
    (postFrom_works _ _ (.inr (List.suffix_refl _)))

/-- R127, R133: the end of step A. -/
theorem stepAEnds_works (s : State) : WorksOn s (stepAEnds s) := by
  unfold stepAEnds
  split
  · exact beginPosting_works s
  · next ha => exact serviceFree_works (by simp [ha])
  · exact .rfl
  · exact .rfl
  · exact .rfl

/-! ## With nothing in progress, or in a status write -/

/-- Nothing of a pass goes on: no activity, or a status write. -/
def NoPass (s : State) : Prop := s.service.activity = .none ∨ s.service.activity = .statusWrite

theorem unitEnds_of_noPass {s : State} (h : NoPass s) : unitEnds s = s := by
  unfold unitEnds
  obtain h | h := h <;> simp [h]

theorem stepAEnds_of_noPass {s : State} (h : NoPass s) : stepAEnds s = s := by
  unfold stepAEnds
  obtain h | h := h <;> simp [h]

/-! ## The scan of one entry -/

/-- R77 to R87: what the scan of an entry can do: the unit ends, with BACKLOG or JUNK set or not; or a request is asked for, of
a result or of a state word, with the queue changed or not. -/
theorem handleEntry_cases (i : Nat) (bs : List Byte) (s : State) :
    (∃ backlog junk, handleEntry i bs s = unitEnds { s with service := { s.service with backlog := backlog, junk := junk } })
      ∨ ∃ q k o n, WorkKind k ∧ handleEntry i bs s = requestService k o n { s with queue := q } := by
  have hends : ∃ backlog junk, unitEnds s = unitEnds { s with service := { s.service with backlog := backlog, junk := junk } } :=
    ⟨_, _, rfl⟩
  unfold handleEntry
  split
  · split
    · next e he =>
      unfold postedHeld
      split
      · exact .inl hends
      · exact .inr ⟨s.queue, _, _, _, workKind_stateWrite i .taken, rfl⟩
    · unfold takePosted
      split
      · exact .inr ⟨s.queue, _, _, _, workKind_resultWrite i _ _, rfl⟩
      · split
        · exact .inr ⟨_, _, _, _, workKind_stateWrite i .taken, rfl⟩
        · exact .inl ⟨_, _, rfl⟩
  · unfold cancelRead
    split
    · split
      · exact .inr ⟨_, _, _, _, workKind_resultWrite i _ _, rfl⟩
      · exact .inl hends
    · exact .inr ⟨s.queue, _, _, _, workKind_stateWrite i .cancelLate, rfl⟩
  · exact .inl hends
  · exact .inl hends
  · exact .inl hends
  · exact .inl hends
  · exact .inl hends
  · exact .inl hends
  · exact .inl hends
  · exact .inl ⟨_, _, rfl⟩

/-- R130, R131: the end of step D, whatever it is the step of. -/
theorem statusEnds_cases (s : State) :
    (s.service.activity = .pass ∧ statusEnds s = serviceFree (passEvaluations s))
      ∨ (s.service.activity = .tail ∧ statusEnds s = serviceFree s)
      ∨ (s.service.activity = .statusWrite ∧ s.control.engine = .loading ∧ statusEnds s = loadSucceeds s)
      ∨ (s.service.activity = .statusWrite ∧ s.control.engine ≠ .loading ∧ statusEnds s = serviceFree s)
      ∨ ((s.service.activity = .none ∨ s.service.activity = .closingWait) ∧ statusEnds s = s) := by
  unfold statusEnds
  cases s.service.activity with
  | pass => exact .inl ⟨rfl, rfl⟩
  | tail => exact .inr (.inl ⟨rfl, rfl⟩)
  | statusWrite =>
    by_cases he : s.control.engine = .loading
    · exact .inr (.inr (.inl ⟨rfl, he, if_pos he⟩))
    · exact .inr (.inr (.inr (.inl ⟨rfl, he, if_neg he⟩)))
  | none => exact .inr (.inr (.inr (.inr ⟨.inl rfl, rfl⟩)))
  | closingWait => exact .inr (.inr (.inr (.inr ⟨.inr rfl, rfl⟩)))

end Sys2Proof.Proofs.ServiceWork
end

section
/-! PROOFS. The post list under every move (R128), and the statement about the bounds that every step keeps. -/

namespace Sys2Proof.Proofs.KeptBounds

open Sys2Proof Sys2Proof.Machine Sys2Proof.Proofs.EngineControl Sys2Proof.Proofs.PortGrants Sys2Proof.Proofs.FrameEnds
open Sys2Proof.Proofs.Runs Sys2Proof.Proofs.RunStarts Sys2Proof.Proofs.Moves Sys2Proof.Proofs.Bounds
open Sys2Proof.Proofs.EveryStepBounds Sys2Proof.Proofs.EveryStepKeeps Sys2Proof.Proofs.ServiceWork

/-! ## The post list at the ends of transfers -/

theorem setupReturns_service (bs : List Byte) (s : State) : (setupReturns bs s).service = s.service := by
  unfold setupReturns
  dsimp only
  split <;> rfl

theorem loadHostControlReturns_service (bs : List Byte) (s : State) :
    (loadHostControlReturns bs s).service = { s.service with hostControl := readHostControl bs } := by
  unfold loadHostControlReturns
  dsimp only
  split
  · rfl
  · rw [startInitialLoad_service]; rfl

/-- R71: a plan read moves the Service Unit only when LOAD's status write begins. -/
theorem judgePlan_service (s : State) : (judgePlan s).service = s.service
    ∨ (s.control.engine = .loading ∧ (judgePlan s).service = { s.service with activity := .statusWrite, step := .d }) := by
  unfold judgePlan
  split
  · exact .inl (planRejected_service _ s)
  · by_cases he : s.control.engine = .loading
    · exact .inr ⟨he, by simp [State.initialLoad, he]; rfl⟩
    · exact .inl (by simp [State.initialLoad, he])

theorem planReadReturns_service (bs : List Byte) (s : State) : (planReadReturns bs s).service = s.service
    ∨ (s.control.engine = .loading ∧ s.loader.readOut = .currentLoad
      ∧ (planReadReturns bs s).service = { s.service with activity := .statusWrite, step := .d }) := by
  unfold planReadReturns
  cases hr : s.loader.readOut with
  | none => exact .inl rfl
  | stale => exact .inl (staleReadEnds_service s)
  | currentLoad =>
    dsimp only
    unfold afterPlanBytes
    split
    · exact .inl (judgeHeader_service _)
    · split
      · obtain h | ⟨he, h⟩ := judgePlan_service (takePlanBytes bs s)
        · exact .inl h
        · exact .inr ⟨he, rfl, h⟩
      · exact .inl (nextPlanRead_service _)

theorem handOvers_service (s : State) : (handOvers s).service =
    { s.service with
      releaseBad := s.service.releaseBad || !s.writer.accepts s.service.hostControl.release } := by
  simp [handOvers]

theorem postsFrom_stepAEnds_handOvers (s : State) : PostsFrom s (stepAEnds (handOvers s)) :=
  postsFrom_of_from (stepAEnds_works (handOvers s)).posts (by rw [handOvers_service]) (handOvers_queue s)

theorem postsFrom_statusEnds (s : State) : PostsFrom s (statusEnds s) := by
  obtain ⟨ha, h⟩ | ⟨ha, h⟩ | ⟨ha, -, h⟩ | ⟨ha, -, h⟩ | ⟨ha, h⟩ := statusEnds_cases s <;> rw [h]
  · exact (serviceFree_works (s := passEvaluations s) (by simp [ha])).posts
  · exact (serviceFree_works (by simp [ha])).posts
  · exact postsFrom_of_eq rfl
  · exact (serviceFree_works (by simp [ha])).posts
  · exact postsFrom_of_eq rfl

theorem postsFrom_handleEntry (i : Nat) (bs : List Byte) (s : State) : PostsFrom s (handleEntry i bs s) := by
  obtain ⟨backlog, junk, h⟩ | ⟨q, k, o, n, -, h⟩ := handleEntry_cases i bs s <;> rw [h]
  · exact .inl (suffix_unitEnds { s with service := { s.service with backlog := backlog, junk := junk } })
  · exact postsFrom_of_eq rfl

theorem postsFrom_failureHanded (d : PlanDetail) (k : TransferKind) (s : State) : PostsFrom s (failureHanded d k s) := by
  cases k with
  | setupRead => exact postsFrom_of_eq rfl
  | hostControlRead => exact postsFrom_of_eq rfl
  | stepARead => exact postsFrom_stepAEnds_handOvers s
  | planRead => exact postsFrom_of_eq (congrArg Service.postList (planReadFails_service d s))
  | boardRead => exact .inl (suffix_unitEnds s)
  | resultWrite => exact .inl (suffix_unitEnds s)
  | stateWrite => exact .inl (suffix_unitEnds s)
  | statusFirst => exact postsFrom_statusEnds s
  | statusSecond => exact postsFrom_statusEnds s
  | journalWrite => exact postsFrom_of_eq rfl

/-- R128: the post list at the end of a transfer. -/
theorem answers_posts {x : Transfer} {f : State → State} (h : Answers x f) (u : State) : PostsFrom u (f u) := by
  cases h with
  | setupRead data _ => exact postsFrom_of_eq (by rw [setupReturns_service])
  | hostControl data _ => exact postsFrom_of_eq (by rw [loadHostControlReturns_service])
  | stepA data _ =>
    exact postsFrom_stepAEnds_handOvers { u with service := { u.service with hostControl := readHostControl data } }
  | planRead data _ =>
    obtain h | ⟨-, -, h⟩ := planReadReturns_service data u
    · exact postsFrom_of_eq (by rw [h])
    · exact postsFrom_of_eq (by rw [h])
  | boardRead i data _ => exact postsFrom_handleEntry i data u
  | resultWrite i r w _ => exact postsFrom_of_eq rfl
  | stateWrite i w _ => exact .inl (suffix_unitEnds (removeAnswered i w (noteFinal w u)))
  | statusFirst _ => exact postsFrom_of_eq rfl
  | statusSecond _ => exact postsFrom_statusEnds (postStatus u)
  | journalWrite _ => exact postsFrom_of_eq rfl
  | failure d => exact postsFrom_failureHanded d x.kind (countFailure u)

/-! ## The post list under every move -/

theorem started_postList (v : Service) (issued : Bool) : (v.started issued).postList = v.postList := by
  unfold Service.started
  cases v.activity <;> cases issued <;> rfl

theorem stopped_postList (v : Service) : v.stopped.postList = v.postList := by
  unfold Service.stopped
  cases v.activity <;> rfl

theorem frameEnd_postList (missing : Bool) (s : State) :
    (frameEnd missing s).service.postList = s.service.postList := by
  have he : (endedFrame missing s).service.postList = s.service.postList := rfl
  rw [frameEnd_eq]
  unfold afterSettlement
  cases (s.endingSettlement missing).engine with
  | running => exact he
  | held => exact he
  | armed => exact (stopped_postList _).trans he
  | halted => exact he
  | idle => exact he
  | loading => exact he
  | syncWait => exact he

theorem sampleLines_service (ls : List Line) (s : State) : (sampleLines ls s).service = s.service := by
  induction ls generalizing s with
  | nil => rfl
  | cons l ls ih => exact (ih (sampleLine l s)).trans (sampleLine_service l s)

theorem postsFrom_serviceWindow (s : State) : PostsFrom s (serviceWindow s) := by
  unfold serviceWindow
  dsimp only
  split
  · exact postsFrom_of_nil (by rw [grantFree_postList]; rfl)
  all_goals exact postsFrom_of_eq rfl

/-- R128: every move leaves the post list what is left of the one before, or takes it anew. -/
theorem move_posts {s t : State} (h : Move s t) : PostsFrom s t := by
  cases h with
  | stays => exact postsFrom_of_eq rfl
  | reset => exact postsFrom_of_nil rfl
  | refused => exact postsFrom_of_eq rfl
  | load => exact postsFrom_of_nil (by rw [takeLoad, grantFree_postList]; rfl)
  | startInternal =>
    exact postsFrom_of_eq (by rw [settlePort_postList]; exact started_postList _ _)
  | startExternal => exact postsFrom_of_eq (started_postList _ _)
  | stopPends => exact postsFrom_of_eq rfl
  | stopInSyncWait =>
    exact postsFrom_of_eq (by rw [stopInSyncWait, settlePort_postList]; exact stopped_postList _)
  | resume => exact postsFrom_of_eq rfl
  | halt => exact postsFrom_of_nil rfl
  | haltAgain => exact postsFrom_of_nil rfl
  | clear => exact postsFrom_of_nil rfl
  | xbase => exact postsFrom_of_eq rfl
  | cause => exact postsFrom_of_eq rfl
  | mask => exact postsFrom_of_eq rfl
  | sample => exact postsFrom_of_eq rfl
  | firstEdge => exact postsFrom_of_eq (by rw [firstEdge, settlePort_postList]; rfl)
  | earlyEdge => exact postsFrom_of_eq rfl
  | frameEnd missing u hu =>
    have hu : u.service = s.service := by obtain rfl | ⟨level, rfl⟩ := hu <;> rfl
    exact postsFrom_of_eq (by rw [settlePort_postList, frameEnd_postList, hu])
  | lineEdge => exact postsFrom_of_eq (by rw [settlePort_postList, sampleLines_service])
  | instant => exact postsFrom_of_eq rfl
  | lines => exact postsFrom_of_eq rfl
  | closeWindow => exact postsFrom_of_eq rfl
  | dynamic => exact postsFrom_of_eq rfl
  | minislot m =>
    obtain ⟨v, q, h | ⟨p, body, -, h⟩⟩ := minislotStarts_cases m s
    · exact postsFrom_of_eq (by rw [h]; rfl)
    · exact postsFrom_of_eq (by rw [h, settlePort_postList]; rfl)
  | spotEnd => exact postsFrom_of_eq (by rw [finishSpotDue_service])
  | service => exact postsFrom_serviceWindow s
  | closing => exact postsFrom_of_eq (by rw [grantFree_postList]; rfl)
  | ends x f _ _ hf =>
    rw [PostsFrom, grantAtEnd_postList]
    exact answers_posts hf (freePort s)
  | discarded => exact postsFrom_of_eq (by rw [grantAtEnd_postList]; rfl)

/-! ## The statement -/

/-- A change of the commands that wait is no part of the bounds. -/
theorem bounded_withPending {s : State} (h : s.Bounded) (l : List Instr) : State.Bounded { s with pending := l } :=
  ⟨h.numbers, h.score, h.staged, h.queued, h.boards, h.xbase⟩

theorem move_bounded {s t : State} (h : Move s t) (hs : s.Bounded) : t.Bounded where
  numbers := move_numbered h hs.numbers
  score := move_score h hs.score
  staged := move_fits h hs.staged
  queued := move_queued h hs.queued
  boards := move_boards h hs.boards
  xbase := move_aligned h hs.xbase

theorem advanceTick_bounded {s : State} (hs : s.Bounded) : (advanceTick s).Bounded where
  numbers := hs.numbers
  score := hs.score
  staged := judge_length_le (st := s.staging) hs.staged
  queued := hs.queued
  boards := hs.boards
  xbase := hs.xbase

/-- Settles O3: each clause holds of every move, and of a tick. -/
theorem everyStepKeepsBounds : Obligations.EveryStepKeepsBounds := by
  refine ⟨fun s t hs h => ?bounded, fun s t ho hr h => ?ordered, fun s t h => ?posts, fun q hr => finishedByTake_sorted hr⟩
  case bounded =>
    exact step_keeps (P := fun s t => s.Bounded → t.Bounded) (fun s l t h hs => h (bounded_withPending hs l))
      (fun s l hs => bounded_withPending hs l) (fun _ => advanceTick_bounded) (fun _ _ => move_bounded) h hs
  case ordered =>
    exact step_keeps (P := fun s t => s.QueueOrdered → s.queue.TakesRecent → t.QueueOrdered)
      (fun _ _ _ h => h) (fun _ _ ho _ => ho) (fun _ ho _ => ho) (fun _ _ => move_ordered) h ho hr
  case posts =>
    exact step_keeps (P := PostsFrom) (fun _ _ _ h => h) (fun _ _ => postsFrom_of_eq rfl)
      (fun _ => postsFrom_of_eq rfl) (fun _ _ => move_posts) h

end Sys2Proof.Proofs.KeptBounds
end

section
/-! PROOFS. What stands at the memory port (R140, R141): a condition on the requests that wait and the transfer whose result is
wanted is kept by every grant; what the ends of transfers ask for. -/

namespace Sys2Proof.Proofs.PortContents

open Sys2Proof Sys2Proof.Machine Sys2Proof.Proofs.PortGrants Sys2Proof.Proofs.Moves Sys2Proof.Proofs.EveryStepKeeps
open Sys2Proof.Proofs.ServiceWork Sys2Proof.Proofs.KeptBounds

/-! ## Conditions on what stands at the port -/

/-- The transfer whose result is wanted. -/
theorem live_eq_some {p : Port} {x : Transfer} : p.live = some x ↔ p.outstanding = some x ∧ x.discard = false := by
  simp [Port.live]

theorem live_of_free {p : Port} (h : p.outstanding = none) : p.live = none := by simp [Port.live, h]

/-- A condition on requester and kind holds of every request that waits, and of the transfer whose result is wanted. -/
structure PortHolds (P : Requester → TransferKind → Prop) (p : Port) : Prop where
  waiting : ∀ q w, p.waiting q = some w → P q w.kind
  live : ∀ x, p.live = some x → P x.requester x.kind

/-- A port with no request that waits and no transfer whose result is wanted. -/
def Silent (p : Port) : Prop := (∀ q, p.waiting q = none) ∧ p.live = none

theorem silent_iff {p : Port} :
    Silent p ↔ p.live = none ∧ p.service = none ∧ p.writer = none ∧ p.loader = none := by
  refine ⟨fun ⟨hw, hl⟩ => ⟨hl, hw .service, hw .writer, hw .loader⟩, fun ⟨hl, hs, hw, hd⟩ => ⟨fun q => ?_, hl⟩⟩
  cases q with
  | service => exact hs
  | writer => exact hw
  | loader => exact hd

theorem portHolds_of_silent {P : Requester → TransferKind → Prop} {p : Port} (h : Silent p) : PortHolds P p :=
  ⟨fun q w hw => by simp [h.1 q] at hw, fun x hx => by simp [h.2] at hx⟩

theorem PortHolds.imp {P Q : Requester → TransferKind → Prop} {p : Port} (h : PortHolds P p)
    (hi : ∀ q k, P q k → Q q k) : PortHolds Q p :=
  ⟨fun q w hw => hi _ _ (h.waiting q w hw), fun x hx => hi _ _ (h.live x hx)⟩

/-- R146: what stands at a port with fewer requests and the same transfer, or a discarded one. -/
theorem PortHolds.mono {P : Requester → TransferKind → Prop} {p r : Port} (h : PortHolds P p)
    (hw : ∀ q w, r.waiting q = some w → p.waiting q = some w) (hl : ∀ x, r.live = some x → p.live = some x) :
    PortHolds P r :=
  ⟨fun q w hq => h.waiting q w (hw q w hq), fun x hx => h.live x (hl x hx)⟩

/-- R141: a request that is granted satisfies the condition when it did as it waited. -/
theorem portHolds_grantTo {P : Requester → TransferKind → Prop} {s : State} (h : PortHolds P s.port) (q : Requester) :
    PortHolds P (grantTo q s).port := by
  cases hq : s.port.waiting q with
  | none => rw [grantTo_of_idle hq]; exact h
  | some w =>
    rw [grantTo_of_waiting hq]
    refine ⟨fun r v hr => ?_, fun x hx => ?_⟩
    · rw [issue_waiting_eq] at hr
      split at hr
      · exact absurd hr nofun
      · exact h.waiting r v hr
    · obtain rfl := Option.some.inj (live_eq_some.mp hx).1
      exact h.waiting q w hq

theorem portHolds_grantFree {P : Requester → TransferKind → Prop} {s : State} (h : PortHolds P s.port) :
    PortHolds P (grantFree s).port := by
  obtain ⟨_, e⟩ | ⟨_, _, e⟩ | ⟨q, w, _, _, _, e⟩ := grantFree_cases s
  · rw [e]; exact h
  · rw [e]; exact h
  · rw [e]; exact portHolds_grantTo h q

theorem portHolds_grantAtEnd {P : Requester → TransferKind → Prop} {s : State} (h : PortHolds P s.port) (b : Port) :
    PortHolds P (grantAtEnd b s).port := by
  obtain ⟨_, e⟩ | ⟨q, w, _, _, e⟩ := grantAtEnd_cases b s
  · rw [e]; exact h
  · rw [e]; exact portHolds_grantTo (s := { s with choices := s.choices + 1 }) h q

/-- R117: the poll makes the writer's own request at most. -/
theorem portHolds_pollWriter {P : Requester → TransferKind → Prop} {s : State} (h : PortHolds P s.port)
    (hj : P .writer .journalWrite) : PortHolds P (pollWriter s).port := by
  cases hw : writerWants s with
  | false => rw [pollWriter_port_of_idle hw]; exact h
  | true =>
    refine ⟨fun q w hq => ?_, fun x hx => ?_⟩
    · by_cases hqw : q = .writer
      · subst hqw
        rw [pollWriter_port_of_wants hw] at hq
        obtain rfl := Option.some.inj hq
        exact hj
      · rw [pollWriter_waiting_of_ne hqw] at hq
        exact h.waiting q w hq
    · refine h.live x ?_
      rw [live_eq_some] at hx ⊢
      rw [pollWriter_port_outstanding] at hx
      exact hx

theorem portHolds_settlePort {P : Requester → TransferKind → Prop} {s : State} (h : PortHolds P s.port)
    (hj : P .writer .journalWrite) : PortHolds P (settlePort s).port :=
  portHolds_grantFree (portHolds_pollWriter h hj)

/-- What stands at the port once its transfer has ended. -/
theorem portHolds_freePort {P : Requester → TransferKind → Prop} {s : State} (h : PortHolds P s.port) :
    PortHolds P (freePort s).port :=
  h.mono (fun q w hq => by cases q <;> exact hq) fun x hx => by simp [freePort, Port.live] at hx

/-! ## What the ends of transfers ask for -/

/-- What an effect asks for: SERVICE's slot holds what it held or a request of a kind in `K`; LOADER's what it held or, outside
LOADING, a plan read; the writer's slot and the outstanding transfer stay. -/
structure Asked (K : TransferKind → Prop) (u v : State) : Prop where
  outstanding : v.port.outstanding = u.port.outstanding
  writer : v.port.writer = u.port.writer
  service : v.port.service = u.port.service ∨ ∃ w, v.port.service = some w ∧ K w.kind
  loader : v.port.loader = u.port.loader
    ∨ (u.control.engine ≠ .loading ∧ ∃ w, v.port.loader = some w ∧ w.kind = .planRead)

theorem asked_of_port {K : TransferKind → Prop} {u v : State} (h : v.port = u.port) : Asked K u v := by
  constructor <;> simp [h]

theorem Asked.imp {K L : TransferKind → Prop} {u v : State} (h : Asked K u v) (hi : ∀ k, K k → L k) : Asked L u v :=
  { h with service := h.service.imp_right fun ⟨w, hw, hk⟩ => ⟨w, hw, hi _ hk⟩ }

/-- What an effect asks for, as seen from a state with the same port and the same engine state. -/
theorem Asked.of_eq {K : TransferKind → Prop} {t u v : State} (h : Asked K u v)
    (ho : u.port.outstanding = t.port.outstanding) (hs : u.port.service = t.port.service)
    (hw : u.port.writer = t.port.writer) (hl : u.port.loader = t.port.loader)
    (he : u.control.engine = t.control.engine) : Asked K t v where
  outstanding := h.outstanding.trans ho
  writer := h.writer.trans hw
  service := hs ▸ h.service
  loader := hl ▸ he ▸ h.loader

/-- An effect that asks for nothing, and then one that may. -/
theorem asked_of_works {K : TransferKind → Prop} {u v : State} (h : WorksOn u v) (hK : ∀ k, WorkKind k → K k) :
    Asked K u v where
  outstanding := by rw [h.port]
  writer := by rw [h.port]
  service := h.request.imp_right fun ⟨w, hw, hk⟩ => ⟨w, hw, hK _ hk⟩
  loader := .inl (by rw [h.port])

theorem Asked.trans {K : TransferKind → Prop} {t u v : State} (h : Asked K t u) (k : Asked K u v)
    (he : t.control.engine = .loading → u.control.engine = .loading) : Asked K t v where
  outstanding := k.outstanding.trans h.outstanding
  writer := k.writer.trans h.writer
  service := by
    obtain hk | hk := k.service
    · rw [hk]; exact h.service
    · exact .inr hk
  loader := by
    obtain hk | ⟨hn, hk⟩ := k.loader
    · rw [hk]; exact h.loader
    · exact .inr ⟨fun hl => hn (he hl), hk⟩

/-- A condition on what stands at the port is kept by an effect whose requests satisfy it. -/
theorem portHolds_of_asked {P : Requester → TransferKind → Prop} {K : TransferKind → Prop} {u v : State}
    (h : Asked K u v) (hu : PortHolds P u.port) (hK : ∀ k, K k → P .service k)
    (hl : u.control.engine ≠ .loading → P .loader .planRead) : PortHolds P v.port where
  waiting q w hq := by
    cases q with
    | service =>
      obtain hs | ⟨y, hy, hk⟩ := h.service
      · exact hu.waiting .service w (hs.symm.trans hq)
      · obtain rfl := Option.some.inj (hy.symm.trans hq)
        exact hK _ hk
    | writer => exact hu.waiting .writer w (h.writer.symm.trans hq)
    | loader =>
      obtain hs | ⟨hn, y, hy, hk⟩ := h.loader
      · exact hu.waiting .loader w (hs.symm.trans hq)
      · obtain rfl := Option.some.inj (hy.symm.trans hq)
        rw [hk]
        exact hl hn
  live x hx := hu.live x (by rw [Port.live, h.outstanding] at hx; exact hx)

/-! ## Effect by effect -/

/-- The kinds that are no journal write and no read of LOAD's own. -/
def PlainKind (k : TransferKind) : Prop := k ≠ .journalWrite ∧ k.isLoadRead = false

theorem plainKind_of_work {k : TransferKind} (h : WorkKind k) : PlainKind k := ⟨h.2.1, h.1⟩

theorem plainKind_planRead : PlainKind .planRead := ⟨nofun, rfl⟩

theorem works_asked {u v : State} (h : WorksOn u v) : Asked PlainKind u v :=
  asked_of_works h fun _ => plainKind_of_work

/-- R59: a plan read is asked for by SERVICE in LOADING, and else by LOADER. -/
theorem nextPlanRead_asked (s : State) : Asked PlainKind s (nextPlanRead s) := by
  unfold nextPlanRead
  split
  · by_cases he : s.control.engine = .loading
    · simp only [planRequester, he, if_true]
      exact ⟨rfl, rfl, .inr ⟨_, rfl, plainKind_planRead⟩, .inl rfl⟩
    · simp only [planRequester, he, if_false]
      exact ⟨rfl, rfl, .inl rfl, .inr ⟨he, _, rfl, rfl⟩⟩
  · exact asked_of_port rfl

theorem firstRead_asked (s : State) : Asked PlainKind s (firstRead s) := by
  unfold firstRead
  split
  · exact asked_of_port (planRejected_port _ s)
  · exact nextPlanRead_asked s

theorem handOverPlan_asked (a : Addr) (g : Word) (s : State) : Asked PlainKind s (handOverPlan a g s) := by
  unfold handOverPlan
  split
  · split
    · split
      · exact (firstRead_asked _).of_eq rfl rfl rfl rfl rfl
      · exact asked_of_port rfl
    · split
      · exact (firstRead_asked _).of_eq rfl rfl rfl rfl rfl
      · exact asked_of_port rfl
  · exact asked_of_port rfl

theorem handOvers_asked (s : State) : Asked PlainKind s (handOvers s) :=
  (handOverPlan_asked _ _ _).of_eq rfl rfl rfl rfl rfl

theorem judgePlan_asked (s : State) : Asked PlainKind s (judgePlan s) := by
  unfold judgePlan
  split
  · exact asked_of_port (planRejected_port _ s)
  · split
    · exact ⟨rfl, rfl, .inr ⟨_, rfl, plainKind_of_work workKind_statusFirst⟩, .inl rfl⟩
    · exact asked_of_port rfl

theorem judgeHeader_asked (s : State) : Asked PlainKind s (judgeHeader s) := by
  unfold judgeHeader
  dsimp only
  split
  · exact asked_of_port (planRejected_port _ s)
  · exact (nextPlanRead_asked _).of_eq rfl rfl rfl rfl rfl

theorem afterPlanBytes_asked (s : State) : Asked PlainKind s (afterPlanBytes s) := by
  unfold afterPlanBytes
  split
  · exact judgeHeader_asked s
  · split
    · exact judgePlan_asked s
    · exact nextPlanRead_asked s

theorem staleReadEnds_asked (s : State) : Asked PlainKind s (staleReadEnds s) := by
  unfold staleReadEnds
  dsimp only
  split
  · exact (nextPlanRead_asked _).of_eq rfl rfl rfl rfl rfl
  · exact asked_of_port rfl

theorem planReadReturns_asked (bs : List Byte) (s : State) : Asked PlainKind s (planReadReturns bs s) := by
  unfold planReadReturns
  split
  · exact asked_of_port rfl
  · exact staleReadEnds_asked s
  · exact (afterPlanBytes_asked _).of_eq rfl rfl rfl rfl rfl

theorem planReadFails_asked (d : PlanDetail) (s : State) : Asked PlainKind s (planReadFails d s) := by
  unfold planReadFails
  split
  · exact asked_of_port rfl
  · exact staleReadEnds_asked s
  · exact asked_of_port (planBusFailed_port d _)

theorem planRejected_engine_of_run {s : State} (h : s.control.engine ≠ .loading) (d : PlanDetail) :
    (planRejected d s).control.engine = s.control.engine := by
  simp [planRejected, State.initialLoad, h, Control.raise]

/-- R57: a hand-over of a plan leaves the engine state. -/
theorem handOverPlan_engine (a : Addr) (g : Word) (s : State) :
    (handOverPlan a g s).control.engine = s.control.engine := by
  have hfirst : ∀ u : State, u.control.engine ≠ .loading → (firstRead u).control.engine = u.control.engine := by
    intro u hu
    unfold firstRead
    split
    · exact planRejected_engine_of_run hu _
    · rw [nextPlanRead_control]
  unfold handOverPlan
  split
  · next hrun =>
    have hl : s.control.engine ≠ .loading := by obtain h | h := hrun.1 <;> simp [h]
    split
    · split
      · exact hfirst _ hl
      · rfl
    · split
      · exact hfirst _ hl
      · rfl
  · rfl

theorem handOvers_engine (s : State) : (handOvers s).control.engine = s.control.engine :=
  handOverPlan_engine _ _ _

theorem stepA_asked (s : State) : Asked PlainKind s (stepAEnds (handOvers s)) :=
  (handOvers_asked s).trans (works_asked (stepAEnds_works _)) fun he => (handOvers_engine s).trans he

theorem statusEnds_asked (s : State) : Asked PlainKind s (statusEnds s) := by
  obtain ⟨ha, h⟩ | ⟨ha, h⟩ | ⟨ha, -, h⟩ | ⟨ha, -, h⟩ | ⟨ha, h⟩ := statusEnds_cases s <;> rw [h]
  · exact (works_asked (serviceFree_works (s := passEvaluations s) (by simp [ha]))).of_eq rfl rfl rfl rfl
      (by simp [passEvaluations])
  · exact works_asked (serviceFree_works (by simp [ha]))
  · exact asked_of_port rfl
  · exact works_asked (serviceFree_works (by simp [ha]))
  · exact asked_of_port rfl

theorem handleEntry_asked (i : Nat) (bs : List Byte) (s : State) : Asked PlainKind s (handleEntry i bs s) := by
  obtain ⟨backlog, junk, h⟩ | ⟨q, k, o, n, hk, h⟩ := handleEntry_cases i bs s <;> rw [h]
  · exact (works_asked (unitEnds_works _)).of_eq rfl rfl rfl rfl rfl
  · exact ⟨rfl, rfl, .inr ⟨_, rfl, plainKind_of_work hk⟩, .inl rfl⟩

theorem failureHanded_asked (d : PlanDetail) (k : TransferKind) (s : State) : Asked PlainKind s (failureHanded d k s) := by
  cases k with
  | setupRead => exact asked_of_port rfl
  | hostControlRead => exact asked_of_port rfl
  | stepARead => exact stepA_asked s
  | planRead => exact planReadFails_asked d s
  | boardRead => exact works_asked (unitEnds_works s)
  | resultWrite => exact works_asked (unitEnds_works s)
  | stateWrite => exact works_asked (unitEnds_works s)
  | statusFirst => exact statusEnds_asked s
  | statusSecond => exact statusEnds_asked s
  | journalWrite => exact asked_of_port rfl

/-- LOAD's host-control read is asked for when its setup read has returned, and by nothing else. -/
def AskedKind (x : Transfer) (k : TransferKind) : Prop :=
  PlainKind k ∨ (k = .hostControlRead ∧ x.kind = .setupRead)

/-- R148: the setup being loaded changes the port's timeout at most. -/
theorem takeSetup_port (f : SetupFields) (s : State) : ∃ n, (takeSetup f s).port = { s.port with timeout := n } := by
  unfold takeSetup
  dsimp only
  split
  · exact ⟨_, rfl⟩
  · exact ⟨s.port.timeout, rfl⟩

/-- R140: what the ends of transfers ask for. -/
theorem answers_asked {x : Transfer} {f : State → State} (h : Answers x f) (u : State) :
    Asked (AskedKind x) u (f u) := by
  have plain : ∀ {v}, Asked PlainKind u v → Asked (AskedKind x) u v := fun h => h.imp fun _ => .inl
  cases h with
  | setupRead data hx =>
    obtain ⟨n, hport⟩ := takeSetup_port (readSetup data) u
    unfold setupReturns
    dsimp only
    split
    · constructor <;> simp [hport]
    · exact ⟨by simp [requestService_port, hport], by simp [requestService_port, hport], .inr ⟨_, rfl, .inr ⟨rfl, hx⟩⟩,
        .inl (by simp [requestService_port, hport])⟩
  | hostControl data _ =>
    refine plain ?_
    unfold loadHostControlReturns
    dsimp only
    split
    · exact asked_of_port rfl
    · exact (firstRead_asked _).of_eq rfl rfl rfl rfl rfl
  | stepA data _ => exact plain ((stepA_asked _).of_eq rfl rfl rfl rfl rfl)
  | planRead data _ => exact plain (planReadReturns_asked data u)
  | boardRead i data _ => exact plain (handleEntry_asked i data u)
  | resultWrite i r w _ => exact plain (works_asked (requestState_works i w u))
  | stateWrite i w _ =>
    refine plain ((works_asked (unitEnds_works _)).of_eq rfl rfl rfl rfl ?_)
    simp [noteFinal]
  | statusFirst _ => exact plain (works_asked (worksOn_request workKind_statusSecond _ _ u))
  | statusSecond _ => exact plain ((statusEnds_asked (postStatus u)).of_eq rfl rfl rfl rfl rfl)
  | journalWrite _ => exact asked_of_port rfl
  | failure d => exact plain ((failureHanded_asked d x.kind (countFailure u)).of_eq rfl rfl rfl rfl rfl)

end Sys2Proof.Proofs.PortContents
end

section
/-! PROOFS. Engine Control at the ends of transfers (R160 to R164): outside LOADING nothing of it moves but the causes; in
LOADING the load goes on, fails or succeeds. -/

namespace Sys2Proof.Proofs.LoadSteps

open Sys2Proof Sys2Proof.Machine Sys2Proof.Proofs.EngineControl Sys2Proof.Proofs.PortGrants Sys2Proof.Proofs.Moves
open Sys2Proof.Proofs.Bounds Sys2Proof.Proofs.EveryStepKeeps Sys2Proof.Proofs.ServiceWork Sys2Proof.Proofs.KeptBounds
open Sys2Proof.Proofs.PortContents

/-! ## Outside LOADING -/

/-- Engine Control stands where it stood: its engine state, its pending command and its readback. -/
structure SameEngine (c d : Control) : Prop where
  engine : d.engine = c.engine
  pending : d.pending = c.pending
  readback : d.readback = c.readback

theorem SameEngine.rfl {c : Control} : SameEngine c c := ⟨Eq.refl _, Eq.refl _, Eq.refl _⟩

theorem SameEngine.trans {c d e : Control} (h : SameEngine c d) (k : SameEngine d e) : SameEngine c e :=
  ⟨k.engine.trans h.engine, k.pending.trans h.pending, k.readback.trans h.readback⟩

theorem sameEngine_of_eq {c d : Control} (h : d = c) : SameEngine c d := h ▸ .rfl

theorem sameEngine_raise (c : Control) (k : Cause) : SameEngine c (c.raise k) := ⟨rfl, rfl, rfl⟩

theorem sameEngine_raiseIf (c : Control) (b : Bool) (k : Cause) : SameEngine c (c.raiseIf b k) := by
  constructor <;> simp

theorem planRejected_sameEngine {s : State} (h : s.control.engine ≠ .loading) (d : PlanDetail) :
    SameEngine s.control (planRejected d s).control := by
  have hc : (planRejected d s).control = s.control.raise .plan := by simp [planRejected, State.initialLoad, h]
  rw [hc]
  exact sameEngine_raise _ _

theorem planBusFailed_sameEngine {s : State} (h : s.control.engine ≠ .loading) (d : PlanDetail) :
    SameEngine s.control (planBusFailed d s).control := by
  have hc : (planBusFailed d s).control = s.control.raise .plan := by simp [planBusFailed, State.initialLoad, h]
  rw [hc]
  exact sameEngine_raise _ _

theorem firstRead_sameEngine {c : Control} {s : State} (hc : s.control = c) (h : c.engine ≠ .loading) :
    SameEngine c (firstRead s).control := by
  subst hc
  unfold firstRead
  split
  · exact planRejected_sameEngine h _
  · exact sameEngine_of_eq (nextPlanRead_control s)

theorem judgePlan_sameEngine {s : State} (h : s.control.engine ≠ .loading) :
    SameEngine s.control (judgePlan s).control := by
  unfold judgePlan
  split
  · exact planRejected_sameEngine h _
  · have hi : s.initialLoad = false := by simp [State.initialLoad, h]
    rw [hi]
    exact .rfl

theorem judgeHeader_sameEngine {s : State} (h : s.control.engine ≠ .loading) :
    SameEngine s.control (judgeHeader s).control := by
  unfold judgeHeader
  dsimp only
  split
  · exact planRejected_sameEngine h _
  · exact sameEngine_of_eq (nextPlanRead_control _)

theorem afterPlanBytes_sameEngine {s : State} (h : s.control.engine ≠ .loading) :
    SameEngine s.control (afterPlanBytes s).control := by
  unfold afterPlanBytes
  split
  · exact judgeHeader_sameEngine h
  · split
    · exact judgePlan_sameEngine h
    · exact sameEngine_of_eq (nextPlanRead_control s)

theorem planReadReturns_sameEngine {s : State} (h : s.control.engine ≠ .loading) (bs : List Byte) :
    SameEngine s.control (planReadReturns bs s).control := by
  unfold planReadReturns
  split
  · exact .rfl
  · exact sameEngine_of_eq (staleReadEnds_control s)
  · exact afterPlanBytes_sameEngine (s := takePlanBytes bs s) h

theorem planReadFails_sameEngine {s : State} (h : s.control.engine ≠ .loading) (d : PlanDetail) :
    SameEngine s.control (planReadFails d s).control := by
  unfold planReadFails
  split
  · exact .rfl
  · exact sameEngine_of_eq (staleReadEnds_control s)
  · exact planBusFailed_sameEngine (s := { s with loader := { s.loader with readOut := .none } }) h d

/-- R57: a plan is handed over in RUNNING and HELD alone. -/
theorem handOverPlan_of_not_run {s : State} (h : s.control.engine ≠ .running) (k : s.control.engine ≠ .held) (a : Addr)
    (g : Word) : handOverPlan a g s = s := by
  simp [handOverPlan, h, k]

theorem overtake_sameEngine {s : State} (h : s.control.engine ≠ .loading) (a : Addr) (g : Word) :
    SameEngine s.control (overtake a g s).control :=
  (sameEngine_raise s.control .plan).trans (firstRead_sameEngine rfl h)

theorem startLoad_sameEngine {s : State} (h : s.control.engine ≠ .loading) (a : Addr) (g : Word) :
    SameEngine s.control (startLoad a g s).control :=
  firstRead_sameEngine rfl h

theorem handOverPlan_sameEngine {c : Control} {s : State} (hc : s.control = c) (a : Addr) (g : Word) :
    SameEngine c (handOverPlan a g s).control := by
  subst hc
  unfold handOverPlan
  split
  · next hrun =>
    have hl : s.control.engine ≠ .loading := by obtain h | h := hrun.1 <;> simp [h]
    split
    · split
      · exact overtake_sameEngine hl a g
      · exact .rfl
    · split
      · exact startLoad_sameEngine hl a g
      · exact .rfl
  · exact .rfl

theorem stepA_sameEngine (s : State) : SameEngine s.control (stepAEnds (handOvers s)).control := by
  rw [stepAEnds_control, handOvers]
  exact handOverPlan_sameEngine (c := s.control) (by rfl) _ _

/-- Outside LOADING step D ends a pass, a tail, a closing write or nothing. -/
theorem statusEnds_sameEngine {s : State} (h : s.control.engine ≠ .loading) :
    SameEngine s.control (statusEnds s).control := by
  obtain ⟨-, e⟩ | ⟨-, e⟩ | ⟨-, he, -⟩ | ⟨-, -, e⟩ | ⟨-, e⟩ := statusEnds_cases s
  · rw [e, serviceFree_control]
    exact (sameEngine_raiseIf _ _ _).trans (sameEngine_raiseIf _ _ _)
  · rw [e]; exact sameEngine_of_eq (serviceFree_control s)
  · exact absurd he h
  · rw [e]; exact sameEngine_of_eq (serviceFree_control s)
  · rw [e]; exact .rfl

theorem handleEntry_control (i : Nat) (bs : List Byte) (s : State) : (handleEntry i bs s).control = s.control := by
  obtain ⟨backlog, junk, h⟩ | ⟨q, k, o, n, -, h⟩ := handleEntry_cases i bs s <;> simp [h]

theorem failureHanded_sameEngine {s : State} (h : s.control.engine ≠ .loading) (d : PlanDetail) {k : TransferKind}
    (hk : k.isLoadRead = false) : SameEngine s.control (failureHanded d k s).control := by
  cases k with
  | setupRead => exact absurd hk nofun
  | hostControlRead => exact absurd hk nofun
  | stepARead => exact stepA_sameEngine s
  | planRead => exact planReadFails_sameEngine h d
  | boardRead => exact sameEngine_of_eq (unitEnds_control s)
  | resultWrite => exact sameEngine_of_eq (unitEnds_control s)
  | stateWrite => exact sameEngine_of_eq (unitEnds_control s)
  | statusFirst => exact statusEnds_sameEngine h
  | statusSecond => exact statusEnds_sameEngine h
  | journalWrite => exact .rfl

/-- Outside LOADING the ends of transfers move nothing of Engine Control but the causes. -/
theorem answers_sameEngine {x : Transfer} {f : State → State} (h : Answers x f) {u : State}
    (he : u.control.engine ≠ .loading) (hx : x.kind.isLoadRead = false) :
    SameEngine u.control (f u).control := by
  cases h with
  | setupRead data hk => simp [hk, TransferKind.isLoadRead] at hx
  | hostControl data hk => simp [hk, TransferKind.isLoadRead] at hx
  | stepA data _ =>
    exact stepA_sameEngine { u with service := { u.service with hostControl := readHostControl data } }
  | planRead data _ => exact planReadReturns_sameEngine he data
  | boardRead i data _ => exact sameEngine_of_eq (handleEntry_control i data u)
  | resultWrite i r w _ => exact .rfl
  | stateWrite i w _ =>
    have hc : (stateWordDone i w u).control =
        u.control.raiseIf (w.isFinal && u.service.activity == .tail) .result := by
      simp [stateWordDone, noteFinal]
    rw [hc]
    exact sameEngine_raiseIf _ _ _
  | statusFirst _ => exact .rfl
  | statusSecond _ => exact statusEnds_sameEngine (s := postStatus u) he
  | journalWrite _ => exact .rfl
  | failure d => exact (sameEngine_raise u.control .bus).trans (failureHanded_sameEngine (s := countFailure u) he d hx)

/-! ## The Service Unit and the writer's enabling -/

/-- Outside LOADING an idle Service Unit stays idle at the ends of transfers. -/
theorem statusEnds_idle {s : State} (h : s.service.activity = .none) : (statusEnds s).service.activity = .none := by
  obtain ⟨ha, -⟩ | ⟨ha, -⟩ | ⟨ha, -, -⟩ | ⟨ha, -, -⟩ | ⟨-, e⟩ := statusEnds_cases s
  · simp [h] at ha
  · simp [h] at ha
  · simp [h] at ha
  · simp [h] at ha
  · rw [e]; exact h

theorem stepA_idle {s : State} (h : s.service.activity = .none) :
    (stepAEnds (handOvers s)).service.activity = .none :=
  (stepAEnds_works _).idle (by rw [handOvers_service]; exact h)

theorem failureHanded_idle {s : State} (h : s.service.activity = .none) (d : PlanDetail) (k : TransferKind) :
    (failureHanded d k s).service.activity = .none := by
  cases k with
  | setupRead => exact h
  | hostControlRead => exact h
  | stepARead => exact stepA_idle h
  | planRead => rw [failureHanded, planReadFails_service]; exact h
  | boardRead => exact (unitEnds_works s).idle h
  | resultWrite => exact (unitEnds_works s).idle h
  | stateWrite => exact (unitEnds_works s).idle h
  | statusFirst => exact statusEnds_idle h
  | statusSecond => exact statusEnds_idle h
  | journalWrite => exact h

theorem answers_idle {x : Transfer} {f : State → State} (h : Answers x f) {u : State} (he : u.control.engine ≠ .loading)
    (ha : u.service.activity = .none) : (f u).service.activity = .none := by
  cases h with
  | setupRead data _ => rw [setupReturns_service]; exact ha
  | hostControl data _ => rw [loadHostControlReturns_service]; exact ha
  | stepA data _ => exact stepA_idle (s := { u with service := { u.service with hostControl := readHostControl data } }) ha
  | planRead data _ =>
    obtain h | ⟨hl, -, -⟩ := planReadReturns_service data u
    · rw [h]; exact ha
    · exact absurd hl he
  | boardRead i data _ =>
    obtain ⟨backlog, junk, h⟩ | ⟨q, k, o, n, -, h⟩ := handleEntry_cases i data u <;> rw [h]
    · exact (unitEnds_works _).idle ha
    · exact ha
  | resultWrite i r w _ => exact ha
  | stateWrite i w _ => exact (unitEnds_works _).idle ha
  | statusFirst _ => exact ha
  | statusSecond _ => exact statusEnds_idle (s := postStatus u) ha
  | journalWrite _ => exact ha
  | failure d => exact failureHanded_idle (s := countFailure u) ha d x.kind

theorem handOvers_writer (s : State) : (handOvers s).writer = s.writer.handOver s.service.hostControl := by
  simp [handOvers]

theorem setupReturns_enabled (bs : List Byte) (s : State) :
    (setupReturns bs s).writer.enabled = s.writer.enabled := by
  have h : (takeSetup (readSetup bs) s).writer.enabled = s.writer.enabled := by
    unfold takeSetup
    dsimp only
    split <;> rfl
  unfold setupReturns
  dsimp only
  split
  · exact h
  · exact h

theorem loadHostControlReturns_writer (bs : List Byte) (s : State) :
    (loadHostControlReturns bs s).writer = s.writer.start (readHostControl bs) := by
  unfold loadHostControlReturns
  dsimp only
  split
  · rfl
  · rw [startInitialLoad_writer]; rfl

theorem handleEntry_writer (i : Nat) (bs : List Byte) (s : State) : (handleEntry i bs s).writer = s.writer := by
  obtain ⟨backlog, junk, h⟩ | ⟨q, k, o, n, -, h⟩ := handleEntry_cases i bs s <;> simp [h]

theorem statusEnds_writer {s : State} (h : s.control.engine ≠ .loading ∨ s.service.activity ≠ .statusWrite) :
    (statusEnds s).writer = s.writer := by
  obtain ⟨-, e⟩ | ⟨-, e⟩ | ⟨ha, he, -⟩ | ⟨-, -, e⟩ | ⟨-, e⟩ := statusEnds_cases s
  · rw [e, serviceFree_writer]; rfl
  · rw [e, serviceFree_writer]
  · obtain h | h := h
    · exact absurd he h
    · exact absurd ha h
  · rw [e, serviceFree_writer]
  · rw [e]

theorem stepA_enabled (s : State) : (stepAEnds (handOvers s)).writer.enabled = s.writer.enabled := by
  rw [stepAEnds_writer, handOvers_writer]
  rfl

theorem failureHanded_enabled {s : State} (h : s.control.engine ≠ .loading ∨ s.service.activity ≠ .statusWrite)
    (d : PlanDetail) (k : TransferKind) : (failureHanded d k s).writer.enabled = s.writer.enabled := by
  cases k with
  | setupRead => rfl
  | hostControlRead => rfl
  | stepARead => exact stepA_enabled s
  | planRead => simp [failureHanded]
  | boardRead => simp [failureHanded]
  | resultWrite => simp [failureHanded]
  | stateWrite => simp [failureHanded]
  | statusFirst => rw [failureHanded, statusEnds_writer h]
  | statusSecond => rw [failureHanded, statusEnds_writer h]
  | journalWrite => rfl

/-- The writer is enabled by LOAD's status write alone. -/
theorem answers_enabled {x : Transfer} {f : State → State} (h : Answers x f) {u : State}
    (hn : u.control.engine ≠ .loading ∨ u.service.activity ≠ .statusWrite) :
    (f u).writer.enabled = u.writer.enabled := by
  cases h with
  | setupRead data _ => exact setupReturns_enabled data u
  | hostControl data _ => rw [loadHostControlReturns_writer]; rfl
  | stepA data _ => exact stepA_enabled { u with service := { u.service with hostControl := readHostControl data } }
  | planRead data _ => rw [planReadReturns_writer]
  | boardRead i data _ => rw [handleEntry_writer]
  | resultWrite i r w _ => rfl
  | stateWrite i w _ => simp [stateWordDone]
  | statusFirst _ => rfl
  | statusSecond _ => rw [statusSecondDone, statusEnds_writer (s := postStatus u) hn]; rfl
  | journalWrite _ => rfl
  | failure d => exact failureHanded_enabled (s := countFailure u) hn d x.kind

end Sys2Proof.Proofs.LoadSteps
end

section
/-! PROOFS. LOADING at the ends of transfers (R160 to R164): the load goes on, fails or succeeds. -/

namespace Sys2Proof.Proofs.LoadOutcomes

open Sys2Proof Sys2Proof.Machine Sys2Proof.Proofs.EngineControl Sys2Proof.Proofs.PortGrants Sys2Proof.Proofs.Moves
open Sys2Proof.Proofs.Bounds Sys2Proof.Proofs.EveryStepKeeps Sys2Proof.Proofs.ServiceWork Sys2Proof.Proofs.KeptBounds
open Sys2Proof.Proofs.PortContents Sys2Proof.Proofs.LoadSteps

/-! ## The reasons of a plan that is rejected -/

/-- R43: a check's reason is no bus failure. -/
theorem planFailure_code {bs : List Byte} {crc : Word} {tolerance : Nat} {d : PlanDetail}
    (h : planFailure bs crc tolerance = some d) : d.code < 16 := by
  unfold planFailure at h
  dsimp only at h
  repeat' split at h
  all_goals simp only [Option.some.injEq, reduceCtorEq] at h
  all_goals subst h
  all_goals decide

/-- R177: a plan reason stands in the readback only with PLAN_REJECTED, and is the reason of a check. -/
def PlanReasonSound (r : Readback) : Prop := r.planReason ≠ .none → r.reason = .planRejected ∧ r.planReason.code < 16

theorem planReasonSound_of_none {r : Readback} (h : r.planReason = .none) : PlanReasonSound r := fun hn => absurd h hn

/-! ## What a load's step leaves -/

/-- The load goes on: Engine Control, the activity and the writer's enabling stay. -/
structure GoesOn (u v : State) : Prop where
  control : SameEngine u.control v.control
  activity : v.service.activity = u.service.activity
  enabled : v.writer.enabled = u.writer.enabled

/-- The load fails (R164): the engine is IDLE with nothing pending, and nothing is asked for. -/
structure Fails (u v : State) : Prop where
  engine : v.control.engine = .idle
  pending : v.control.pending = .none
  reason : PlanReasonSound v.control.readback
  port : v.port.service = u.port.service
  activity : v.service.activity = u.service.activity
  enabled : v.writer.enabled = u.writer.enabled

/-- The load succeeds (R163). -/
structure Succeeds (u v : State) : Prop where
  engine : v.control.engine = .armed
  pending : v.control.pending = .none
  reason : v.control.readback.planReason = .none
  port : v.port.service = u.port.service
  activity : v.service.activity = .none

theorem goesOn_rfl {u : State} : GoesOn u u := ⟨.rfl, rfl, rfl⟩

theorem loadFails_fails {s : State} {r : CmdReason} {d : PlanDetail}
    (h : PlanReasonSound { last := codeLoad, outcome := .failed, reason := r, planReason := d }) :
    Fails s (loadFails r d s) := ⟨rfl, rfl, h, rfl, rfl, rfl⟩

theorem planRejected_fails {s : State} (he : s.control.engine = .loading) {d : PlanDetail} (hd : d.code < 16) :
    Fails s (planRejected d s) := by
  have hi : s.initialLoad = true := by simp [State.initialLoad, he]
  unfold planRejected
  rw [if_pos hi]
  exact ⟨rfl, rfl, fun _ => ⟨rfl, hd⟩, rfl, rfl, rfl⟩

theorem planBusFailed_fails {s : State} (he : s.control.engine = .loading) (d : PlanDetail) :
    Fails s (planBusFailed d s) := by
  have hi : s.initialLoad = true := by simp [State.initialLoad, he]
  unfold planBusFailed
  rw [if_pos hi]
  exact ⟨rfl, rfl, planReasonSound_of_none rfl, rfl, rfl, rfl⟩

theorem nextPlanRead_goesOn (s : State) : GoesOn s (nextPlanRead s) :=
  ⟨sameEngine_of_eq (nextPlanRead_control s), by simp, by simp⟩

/-- R59: the first read of a load, or BAD_FORMAT, as seen from a state with the same control, service, writer and port. -/
theorem firstRead_step {s u : State} (hc : u.control = s.control) (hs : u.service = s.service) (hw : u.writer = s.writer)
    (hp : u.port = s.port) (he : s.control.engine = .loading) : GoesOn s (firstRead u) ∨ Fails s (firstRead u) := by
  unfold firstRead
  split
  · have h := planRejected_fails (s := u) (by rw [hc]; exact he) (d := .badFormat) (by decide)
    exact .inr ⟨h.engine, h.pending, h.reason, h.port.trans (by rw [hp]), h.activity.trans (by rw [hs]),
      h.enabled.trans (by rw [hw])⟩
  · exact .inl ⟨sameEngine_of_eq (by simp [hc]), by simp [hs], by simp [hw]⟩

/-- R71: the initial load's first read. -/
theorem startInitialLoad_step {s : State} (he : s.control.engine = .loading) (a : Addr) (g : Word) :
    GoesOn s (startInitialLoad a g s) ∨ Fails s (startInitialLoad a g s) :=
  firstRead_step (by rfl) (by rfl) (by rfl) (by rfl) he

/-- R71, R163: the initial plan passes. -/
def PlanPasses (u v : State) : Prop :=
  SameEngine u.control v.control ∧ v.service.activity = .statusWrite ∧ v.writer.enabled = u.writer.enabled
    ∧ v.loader.readOut = u.loader.readOut

theorem judgePlan_step {s : State} (he : s.control.engine = .loading) :
    PlanPasses s (judgePlan s) ∨ Fails s (judgePlan s) := by
  unfold judgePlan
  split
  · next d hd => exact .inr (planRejected_fails he (planFailure_code hd))
  · have hi : s.initialLoad = true := by simp [State.initialLoad, he]
    rw [hi]
    exact .inl ⟨⟨rfl, rfl, rfl⟩, rfl, rfl, rfl⟩

theorem judgeHeader_step {s : State} (he : s.control.engine = .loading) :
    GoesOn s (judgeHeader s) ∨ Fails s (judgeHeader s) := by
  unfold judgeHeader
  dsimp only
  split
  · exact .inr (planRejected_fails he (by decide))
  · exact .inl ⟨sameEngine_of_eq (by simp), by simp, by simp⟩

theorem takePlanBytes_readOut (bs : List Byte) (s : State) : (takePlanBytes bs s).loader.readOut = .none := rfl

/-- R61, R163, R164: a plan read of the initial load. -/
theorem planReadReturns_step {s : State} (he : s.control.engine = .loading) (bs : List Byte) :
    (GoesOn s (planReadReturns bs s) ∧ (s.loader.readOut = .none → planReadReturns bs s = s))
      ∨ (s.loader.readOut = .currentLoad ∧ SameEngine s.control (planReadReturns bs s).control
        ∧ (planReadReturns bs s).service.activity = .statusWrite
        ∧ (planReadReturns bs s).writer.enabled = s.writer.enabled ∧ (planReadReturns bs s).loader.readOut = .none)
      ∨ (s.loader.readOut = .currentLoad ∧ Fails s (planReadReturns bs s)) := by
  unfold planReadReturns
  cases hr : s.loader.readOut with
  | none => exact .inl ⟨goesOn_rfl, fun _ => rfl⟩
  | stale =>
    exact .inl ⟨⟨sameEngine_of_eq (staleReadEnds_control s), by simp, by simp⟩, nofun⟩
  | currentLoad =>
    have fails : ∀ {v}, Fails (takePlanBytes bs s) v → Fails s v := fun h =>
      ⟨h.engine, h.pending, h.reason, h.port, h.activity, h.enabled⟩
    have goes : ∀ {v}, GoesOn (takePlanBytes bs s) v → GoesOn s v := fun h => ⟨h.control, h.activity, h.enabled⟩
    dsimp only
    unfold afterPlanBytes
    split
    · obtain h | h := judgeHeader_step (s := takePlanBytes bs s) he
      · exact .inl ⟨goes h, nofun⟩
      · exact .inr (.inr ⟨rfl, fails h⟩)
    · split
      · obtain ⟨hc, ha, hw, hro⟩ | h := judgePlan_step (s := takePlanBytes bs s) he
        · exact .inr (.inl ⟨rfl, hc, ha, hw, hro⟩)
        · exact .inr (.inr ⟨rfl, fails h⟩)
      · exact .inl ⟨goes (nextPlanRead_goesOn _), nofun⟩

theorem planReadFails_step {s : State} (he : s.control.engine = .loading) (d : PlanDetail) :
    (GoesOn s (planReadFails d s) ∧ (s.loader.readOut = .none → planReadFails d s = s))
      ∨ (s.loader.readOut = .currentLoad ∧ Fails s (planReadFails d s)) := by
  unfold planReadFails
  cases hr : s.loader.readOut with
  | none => exact .inl ⟨goesOn_rfl, fun _ => rfl⟩
  | stale => exact .inl ⟨⟨sameEngine_of_eq (staleReadEnds_control s), by simp, by simp⟩, nofun⟩
  | currentLoad =>
    have h := planBusFailed_fails (s := { s with loader := { s.loader with readOut := .none } }) he d
    exact .inr ⟨rfl, h.engine, h.pending, h.reason, h.port, h.activity, h.enabled⟩

/-! ## The outcomes of a load -/

/-- What a step of LOAD can leave, at the end of a transfer `x`. -/
inductive LoadStep (x : Transfer) (u v : State) : Prop
  | goesOn : SameEngine u.control v.control → NoPass v → v.writer.enabled = u.writer.enabled →
      (v.service.activity = .statusWrite → v.loader.readOut = .none ∧ x.kind.isLoadRead = false) → LoadStep x u v
  | fails : Fails u v → v.service.activity = .none → LoadStep x u v
  | succeeds : Succeeds u v → LoadStep x u v

/-- LOADING as it stands while LOAD goes on: nothing of a pass is in progress, and once LOAD's status write is, no read of
LOAD is at the port. -/
structure InLoad (x : Transfer) (u : State) : Prop where
  engine : u.control.engine = .loading
  noPass : NoPass u
  status : u.service.activity = .statusWrite → u.loader.readOut = .none ∧ x.kind.isLoadRead = false

theorem InLoad.idle_of_loadRead {x : Transfer} {u : State} (h : InLoad x u) (hx : x.kind.isLoadRead = true) :
    u.service.activity = .none :=
  h.noPass.resolve_right fun ha => by simp [(h.status ha).2] at hx

theorem InLoad.idle_of_readOut {x : Transfer} {u : State} (h : InLoad x u) (hr : u.loader.readOut ≠ .none) :
    u.service.activity = .none :=
  h.noPass.resolve_right fun ha => hr (h.status ha).1

theorem loadStep_of_goesOn {x : Transfer} {u v : State} (h : InLoad x u) (hg : GoesOn u v)
    (hr : u.service.activity = .statusWrite → v.loader.readOut = .none) : LoadStep x u v := by
  refine .goesOn hg.control ?_ hg.enabled fun ha => ?_
  · rw [NoPass, hg.activity]; exact h.noPass
  · rw [hg.activity] at ha
    exact ⟨hr ha, (h.status ha).2⟩

/-- The effect that leaves what a load is judged by. -/
theorem loadStep_of_eq {x : Transfer} {u v : State} (h : InLoad x u) (hc : v.control = u.control)
    (ha : v.service.activity = u.service.activity) (hw : v.writer.enabled = u.writer.enabled)
    (hl : v.loader.readOut = u.loader.readOut) : LoadStep x u v :=
  loadStep_of_goesOn h ⟨sameEngine_of_eq hc, ha, hw⟩ fun hs => hl.trans (h.status hs).1

theorem setupReturns_step {x : Transfer} {u : State} (h : InLoad x u) (hx : x.kind = .setupRead) (bs : List Byte) :
    LoadStep x u (setupReturns bs u) := by
  have ha : u.service.activity = .none := h.idle_of_loadRead (by rw [hx]; rfl)
  obtain ⟨n, hport⟩ := takeSetup_port (readSetup bs) u
  have hw := setupReturns_enabled bs u
  unfold setupReturns at hw ⊢
  dsimp only at hw ⊢
  split
  · exact .fails ⟨rfl, rfl, planReasonSound_of_none rfl, by simp [hport], rfl, by simpa [*] using hw⟩ ha
  · refine loadStep_of_goesOn h ⟨⟨rfl, rfl, rfl⟩, rfl, by simpa [*] using hw⟩ fun hs => ?_
    simp [ha] at hs

theorem loadHostControlReturns_step {x : Transfer} {u : State} (h : InLoad x u) (hx : x.kind = .hostControlRead)
    (bs : List Byte) : LoadStep x u (loadHostControlReturns bs u) := by
  have ha : u.service.activity = .none := h.idle_of_loadRead (by rw [hx]; rfl)
  unfold loadHostControlReturns
  dsimp only
  split
  · exact .fails ⟨rfl, rfl, planReasonSound_of_none rfl, rfl, rfl, rfl⟩ ha
  · let t := takeLoadHostControl (readHostControl bs) u
    have hstep := startInitialLoad_step (s := { t with control := { t.control with stage := .plan } }) h.engine
      (readHostControl bs).planAddress (readHostControl bs).planGeneration
    obtain hg | hf := hstep
    · refine loadStep_of_goesOn h ⟨⟨hg.control.engine, hg.control.pending, hg.control.readback⟩, hg.activity, hg.enabled⟩
        fun hs => ?_
      simp [ha] at hs
    · exact .fails ⟨hf.engine, hf.pending, hf.reason, hf.port, hf.activity, hf.enabled⟩ (hf.activity.trans ha)

theorem handOvers_of_loading {s : State} (h : s.control.engine = .loading) : handOvers s =
    { s with
      writer := s.writer.handOver s.service.hostControl
      service := { s.service with
        releaseBad := s.service.releaseBad || !s.writer.accepts s.service.hostControl.release } } :=
  handOverPlan_of_not_run (by simp [h]) (by simp [h]) _ _

theorem stepA_of_noPass {s : State} (hn : NoPass s) :
    stepAEnds (handOvers s) = handOvers s :=
  stepAEnds_of_noPass (by rw [NoPass, handOvers_service]; exact hn)

theorem stepA_step {x : Transfer} {u : State} (h : InLoad x u) : LoadStep x u (stepAEnds (handOvers u)) := by
  rw [stepA_of_noPass h.noPass, handOvers_of_loading h.engine]
  exact loadStep_of_eq h rfl rfl rfl rfl

theorem unitEnds_step {x : Transfer} {u : State} (h : InLoad x u) : LoadStep x u (unitEnds u) := by
  rw [unitEnds_of_noPass h.noPass]
  exact loadStep_of_eq h rfl rfl rfl rfl

theorem loadSucceeds_step {x : Transfer} (u : State) : LoadStep x u (loadSucceeds u) :=
  .succeeds ⟨rfl, rfl, rfl, rfl, rfl⟩

theorem statusEnds_step {x : Transfer} {u : State} (h : InLoad x u) : LoadStep x u (statusEnds u) := by
  obtain ⟨ha, -⟩ | ⟨ha, -⟩ | ⟨-, -, e⟩ | ⟨-, he, -⟩ | ⟨-, e⟩ := statusEnds_cases u
  · obtain hn | hn := h.noPass <;> simp [hn] at ha
  · obtain hn | hn := h.noPass <;> simp [hn] at ha
  · rw [e]; exact loadSucceeds_step u
  · exact absurd h.engine he
  · rw [e]; exact loadStep_of_eq h rfl rfl rfl rfl

theorem planRead_step {x : Transfer} {u : State} (h : InLoad x u) (hx : x.kind = .planRead) (bs : List Byte) :
    LoadStep x u (planReadReturns bs u) := by
  have hplain : x.kind.isLoadRead = false := by rw [hx]; rfl
  obtain ⟨hg, hn⟩ | ⟨hr, hc, ha, hw, hro⟩ | ⟨hr, hf⟩ := planReadReturns_step h.engine bs
  · exact loadStep_of_goesOn h hg fun hs => by rw [hn (h.status hs).1]; exact (h.status hs).1
  · exact .goesOn hc (.inr ha) hw fun _ => ⟨hro, hplain⟩
  · exact .fails hf (hf.activity.trans (h.idle_of_readOut (by simp [hr])))

theorem planReadFails_loadStep {x : Transfer} {u : State} (h : InLoad x u) (d : PlanDetail) :
    LoadStep x u (planReadFails d u) := by
  obtain ⟨hg, hn⟩ | ⟨hr, hf⟩ := planReadFails_step h.engine d
  · exact loadStep_of_goesOn h hg fun hs => by rw [hn (h.status hs).1]; exact (h.status hs).1
  · exact .fails hf (hf.activity.trans (h.idle_of_readOut (by simp [hr])))

theorem failureHanded_step {x : Transfer} {u : State} (h : InLoad x u) (d : PlanDetail) :
    LoadStep x u (failureHanded d x.kind u) := by
  cases hk : x.kind with
  | setupRead =>
    exact .fails (loadFails_fails (planReasonSound_of_none rfl)) (h.idle_of_loadRead (by rw [hk]; rfl))
  | hostControlRead =>
    exact .fails (loadFails_fails (planReasonSound_of_none rfl)) (h.idle_of_loadRead (by rw [hk]; rfl))
  | stepARead => exact stepA_step h
  | planRead => exact planReadFails_loadStep h d
  | boardRead => exact unitEnds_step h
  | resultWrite => exact unitEnds_step h
  | stateWrite => exact unitEnds_step h
  | statusFirst => exact statusEnds_step h
  | statusSecond => exact statusEnds_step h
  | journalWrite => exact loadStep_of_eq h rfl rfl rfl rfl

/-- What a load is judged by has no part in a change of other items. -/
theorem LoadStep.of_eq {x : Transfer} {t u v : State} (h : LoadStep x u v) (hc : SameEngine t.control u.control)
    (hp : u.port.service = t.port.service) (ha : u.service.activity = t.service.activity)
    (hw : u.writer.enabled = t.writer.enabled) : LoadStep x t v := by
  cases h with
  | goesOn c n e r => exact LoadStep.goesOn (hc.trans c) n (e.trans hw) r
  | fails f a => exact .fails ⟨f.engine, f.pending, f.reason, f.port.trans hp, f.activity.trans ha, f.enabled.trans hw⟩ a
  | succeeds f => exact .succeeds ⟨f.engine, f.pending, f.reason, f.port.trans hp, f.activity⟩

theorem InLoad.of_eq {x : Transfer} {t u : State} (h : InLoad x t) (he : u.control.engine = t.control.engine)
    (ha : u.service.activity = t.service.activity) (hl : u.loader.readOut = t.loader.readOut) : InLoad x u :=
  ⟨he.trans h.engine, by rw [NoPass, ha]; exact h.noPass, fun hs => by rw [hl]; exact h.status (ha ▸ hs)⟩

/-- R160 to R164: what the ends of transfers make of LOAD. -/
theorem answers_loadStep {x : Transfer} {f : State → State} (h : Answers x f) {u : State} (hu : InLoad x u) :
    LoadStep x u (f u) := by
  cases h with
  | setupRead data hx => exact setupReturns_step hu hx data
  | hostControl data hx => exact loadHostControlReturns_step hu hx data
  | stepA data _ =>
    have h := stepA_step (u := { u with service := { u.service with hostControl := readHostControl data } })
      (hu.of_eq rfl rfl rfl)
    exact h.of_eq .rfl rfl rfl rfl
  | planRead data hx => exact planRead_step hu hx data
  | boardRead i data _ =>
    obtain ⟨backlog, junk, h⟩ | ⟨q, k, o, n, -, h⟩ := handleEntry_cases i data u <;> rw [h]
    · have h := unitEnds_step (u := { u with service := { u.service with backlog := backlog, junk := junk } })
        (hu.of_eq rfl rfl rfl)
      exact h.of_eq .rfl rfl rfl rfl
    · exact loadStep_of_eq hu rfl rfl rfl rfl
  | resultWrite i r w _ => exact loadStep_of_eq hu rfl rfl rfl rfl
  | stateWrite i w _ =>
    have hc : SameEngine u.control (removeAnswered i w (noteFinal w u)).control := sameEngine_raiseIf _ _ _
    have h := unitEnds_step (u := removeAnswered i w (noteFinal w u)) (hu.of_eq hc.engine rfl rfl)
    exact h.of_eq hc rfl rfl rfl
  | statusFirst _ => exact loadStep_of_eq hu rfl rfl rfl rfl
  | statusSecond _ =>
    have hl : (postStatus u).loader.readOut = u.loader.readOut := by
      unfold postStatus
      dsimp only
      split <;> rfl
    exact (statusEnds_step (u := postStatus u) (hu.of_eq rfl rfl hl)).of_eq .rfl rfl rfl rfl
  | journalWrite _ => exact loadStep_of_eq hu rfl rfl rfl rfl
  | failure d =>
    have h := failureHanded_step (u := countFailure u) (hu.of_eq rfl rfl rfl) d
    exact h.of_eq (sameEngine_raise _ _) rfl rfl rfl

end Sys2Proof.Proofs.LoadOutcomes
end

section
/-! PROOFS. Every step keeps the engine state and the blocks that must agree with it in agreement (R1, R157 to R164, R177). The
invariant is taken in two parts: what Engine Control, the Frame Timer and the units say, and what stands at the memory port. -/

namespace Sys2Proof.Proofs.EngineAgreement

open Sys2Proof Sys2Proof.Machine Sys2Proof.Proofs.EngineControl Sys2Proof.Proofs.PortGrants Sys2Proof.Proofs.FrameEnds
open Sys2Proof.Proofs.Runs Sys2Proof.Proofs.RunStarts Sys2Proof.Proofs.Moves Sys2Proof.Proofs.Bounds
open Sys2Proof.Proofs.EveryStepKeeps Sys2Proof.Proofs.ServiceWork Sys2Proof.Proofs.KeptBounds
open Sys2Proof.Proofs.PortContents Sys2Proof.Proofs.LoadSteps Sys2Proof.Proofs.LoadOutcomes

/-! ## The two parts -/

/-- None of LOAD's own reads is at the port. -/
def NoLoadRead (p : Port) : Prop := PortHolds (fun _ k => k.isLoadRead = false) p

theorem loadReadAtPort_eq_false_iff (p : Port) : p.loadReadAtPort = false ↔ NoLoadRead p := by
  have hany : ∀ o : Option Waiting, (o.any fun w => w.kind.isLoadRead) = false ↔ ∀ w, o = some w → w.kind.isLoadRead = false := by
    intro o
    cases o <;> simp
  have hlive : (p.live.any fun t => t.kind.isLoadRead) = false ↔ ∀ x, p.live = some x → x.kind.isLoadRead = false := by
    cases p.live <;> simp
  simp only [Port.loadReadAtPort, Bool.or_eq_false_iff, hany, hlive]
  constructor
  · rintro ⟨⟨⟨hl, hs⟩, hw⟩, hd⟩
    refine ⟨fun q w hq => ?_, hl⟩
    cases q with
    | service => exact hs w hq
    | writer => exact hw w hq
    | loader => exact hd w hq
  · exact fun h => ⟨⟨⟨h.live, h.waiting .service⟩, h.waiting .writer⟩, h.waiting .loader⟩

/-- What Engine Control, the Frame Timer, the Service Unit, the writer, the Loader and the Health Monitor agree on. -/
structure EngineAgrees (s : State) : Prop where
  frames : s.timer.frameTime.isSome = true ↔ s.control.engine = .running ∨ s.control.engine = .held
  load : s.control.pending = .load ↔ s.control.engine = .loading
  stop : s.control.pending = .stop → s.control.engine = .running ∨ s.control.engine = .held
  resume : s.control.pending = .resume → s.control.engine = .held
  loading : s.control.engine = .loading → s.writer.enabled = false ∧ NoPass s
  statusWrite : s.control.engine = .loading → s.service.activity = .statusWrite → s.loader.readOut = .none
  idle : s.control.engine = .idle → s.writer.enabled = false ∧ s.service.activity = .none
  halted : s.control.engine = .halted → s.service.activity = .none
  score : s.control.engine = .idle ∨ s.control.engine = .loading → s.health.score = 0
  planReason : PlanReasonSound s.control.readback

/-- What the engine state allows at the port. -/
structure PortAgrees (s : State) : Prop where
  loading : s.control.engine = .loading →
    s.port.writer = none ∧ s.port.loader = none ∧ (s.port.live.isSome = true → s.port.service = none)
  statusWrite : s.control.engine = .loading → s.service.activity = .statusWrite → NoLoadRead s.port
  loadReads : s.control.engine ≠ .loading → NoLoadRead s.port
  idle : s.control.engine = .idle → Silent s.port

theorem consistent_iff (s : State) : s.Consistent ↔ EngineAgrees s ∧ PortAgrees s := by
  constructor
  · intro h
    refine ⟨⟨h.frames, h.load, h.stop, h.resume, fun e => ⟨(h.loading e).1, (h.loading e).2.1⟩,
      fun e a => (h.statusWrite e a).1, fun e => ⟨(h.idle e).1, (h.idle e).2.1⟩, h.halted, h.score, h.planReason⟩,
      ⟨fun e => (h.loading e).2.2, fun e a => (loadReadAtPort_eq_false_iff _).mp (h.statusWrite e a).2, fun e => ?_,
        fun e => silent_iff.mpr (h.idle e).2.2⟩⟩
    exact (loadReadAtPort_eq_false_iff _).mp (Bool.eq_false_iff.mpr (mt h.loadReads e))
  · rintro ⟨h, k⟩
    refine ⟨h.frames, h.load, h.stop, h.resume,
      fun e => ⟨(h.loading e).1, (h.loading e).2, k.loading e⟩,
      fun e a => ⟨h.statusWrite e a, (loadReadAtPort_eq_false_iff _).mpr (k.statusWrite e a)⟩, fun hr => ?_,
      fun e => ⟨(h.idle e).1, (h.idle e).2, silent_iff.mp (k.idle e)⟩, h.halted, h.score, h.planReason⟩
    by_contra e
    simp [(loadReadAtPort_eq_false_iff _).mpr (k.loadReads e)] at hr

/-! ## The first part under changes -/

/-- The first part looks at a few items alone. -/
theorem EngineAgrees.of_eq {s t : State} (h : EngineAgrees s) (he : t.control.engine = s.control.engine)
    (hp : t.control.pending = s.control.pending) (hr : PlanReasonSound t.control.readback)
    (hf : t.timer.frameTime.isSome = s.timer.frameTime.isSome) (hw : t.writer.enabled = s.writer.enabled)
    (ha : t.service.activity = s.service.activity) (hl : t.loader.readOut = s.loader.readOut)
    (hs : t.health.score = s.health.score) : EngineAgrees t where
  frames := by rw [he, hf]; exact h.frames
  load := by rw [he, hp]; exact h.load
  stop := by rw [he, hp]; exact h.stop
  resume := by rw [he, hp]; exact h.resume
  loading := by rw [he, hw, NoPass, ha]; exact h.loading
  statusWrite := by rw [he, ha, hl]; exact h.statusWrite
  idle := by rw [he, hw, ha]; exact h.idle
  halted := by rw [he, ha]; exact h.halted
  score := by rw [he, hs]; exact h.score
  planReason := hr

/-- The first part of a state in a run. -/
theorem engineAgrees_of_run {s : State} (he : s.control.engine = .running ∨ s.control.engine = .held)
    (hf : s.timer.frameTime.isSome = true) (hl : s.control.pending ≠ .load)
    (hr : s.control.pending = .resume → s.control.engine = .held) (hp : PlanReasonSound s.control.readback) :
    EngineAgrees s := by
  have hrun : ∀ e : EngineState, e ≠ .running → e ≠ .held → s.control.engine ≠ e := by
    obtain he | he := he <;> rw [he]
    · exact fun e h _ => h.symm
    · exact fun e _ h => h.symm
  exact
    { frames := ⟨fun _ => he, fun _ => hf⟩
      load := ⟨fun h => absurd h hl, fun h => absurd h (hrun _ nofun nofun)⟩
      stop := fun _ => he
      resume := hr
      loading := fun h => absurd h (hrun _ nofun nofun)
      statusWrite := fun h => absurd h (hrun _ nofun nofun)
      idle := fun h => absurd h (hrun _ nofun nofun)
      halted := fun h => absurd h (hrun _ nofun nofun)
      score := fun h => by obtain h | h := h <;> exact absurd h (hrun _ nofun nofun)
      planReason := hp }

/-- The first part of a state outside a run with nothing pending. -/
theorem engineAgrees_of_rest {s : State} (he : s.control.engine ≠ .running ∧ s.control.engine ≠ .held)
    (hl : s.control.engine ≠ .loading) (hf : s.timer.frameTime = none) (hp : s.control.pending = .none)
    (hi : s.control.engine = .idle → s.writer.enabled = false ∧ s.service.activity = .none ∧ s.health.score = 0)
    (hh : s.control.engine = .halted → s.service.activity = .none) (hr : PlanReasonSound s.control.readback) :
    EngineAgrees s where
  frames := by simp [hf, he]
  load := by simp [hp, hl]
  stop h := by simp [hp] at h
  resume h := by simp [hp] at h
  loading h := absurd h hl
  statusWrite h := absurd h hl
  idle h := ⟨(hi h).1, (hi h).2.1⟩
  halted := hh
  score h := (hi (h.resolve_right hl)).2.2
  planReason := hr

/-! ## The second part under grants -/

theorem portAgrees_of_noLoadRead {s : State} (hl : s.control.engine ≠ .loading) (hi : s.control.engine ≠ .idle)
    (h : NoLoadRead s.port) : PortAgrees s :=
  ⟨fun e => absurd e hl, fun e => absurd e hl, fun _ => h, fun e => absurd e hi⟩

theorem portAgrees_of_silent {s : State} (h : Silent s.port) : PortAgrees s where
  loading _ := ⟨h.1 .writer, h.1 .loader, fun _ => h.1 .service⟩
  statusWrite _ _ := portHolds_of_silent h
  loadReads _ := portHolds_of_silent h
  idle _ := h

theorem PortAgrees.of_eq {s t : State} (h : PortAgrees s) (he : t.control.engine = s.control.engine)
    (ha : t.service.activity = s.service.activity) (hp : t.port = s.port) : PortAgrees t where
  loading := by rw [he, hp]; exact h.loading
  statusWrite := by rw [he, ha, hp]; exact h.statusWrite
  loadReads := by rw [he, hp]; exact h.loadReads
  idle := by rw [he, hp]; exact h.idle

/-- In LOADING SERVICE alone asks for transfers, one at a time. -/
def OneByOne (p : Port) : Prop := p.writer = none ∧ p.loader = none ∧ (p.live.isSome = true → p.service = none)

theorem oneByOne_grantTo {q : Requester} {s : State} (hw : s.port.writer = none) (hl : s.port.loader = none) {w : Waiting}
    (hq : s.port.waiting q = some w) : OneByOne (grantTo q s).port := by
  cases q with
  | service =>
    rw [grantTo_of_waiting hq]
    exact ⟨hw, hl, fun _ => rfl⟩
  | writer => exact absurd (hw.symm.trans hq) nofun
  | loader => exact absurd (hl.symm.trans hq) nofun

theorem oneByOne_grantFree {s : State} (h : OneByOne s.port) : OneByOne (grantFree s).port := by
  obtain ⟨_, e⟩ | ⟨_, _, e⟩ | ⟨q, w, _, hq, _, e⟩ := grantFree_cases s <;> rw [e]
  · exact h
  · exact h
  · exact oneByOne_grantTo h.1 h.2.1 hq

theorem oneByOne_grantAtEnd {s : State} (hw : s.port.writer = none) (hl : s.port.loader = none) (b : Port) :
    OneByOne (grantAtEnd b s).port := by
  obtain ⟨hn, e⟩ | ⟨q, w, hq, _, e⟩ := grantAtEnd_cases b s <;> rw [e]
  · exact ⟨hn .writer, hn .loader, fun _ => hn .service⟩
  · exact oneByOne_grantTo (s := { s with choices := s.choices + 1 }) hw hl hq

theorem silent_grantFree {s : State} (h : Silent s.port) : Silent (grantFree s).port := by
  obtain ⟨_, e⟩ | ⟨_, _, e⟩ | ⟨q, w, _, hq, _, e⟩ := grantFree_cases s
  · rw [e]; exact h
  · rw [e]; exact h
  · simp [h.1 q] at hq

theorem silent_grantAtEnd {s : State} (h : Silent s.port) (b : Port) : Silent (grantAtEnd b s).port := by
  obtain ⟨_, e⟩ | ⟨q, w, hq, _, _⟩ := grantAtEnd_cases b s
  · rw [e]; exact h
  · simp [h.1 q] at hq

theorem portAgrees_grantFree {s : State} (h : PortAgrees s) : PortAgrees (grantFree s) where
  loading := by rw [grantFree_control]; exact fun e => oneByOne_grantFree (h.loading e)
  statusWrite := by
    rw [grantFree_control, (grantFree_sameWork s).1]
    exact fun e a => portHolds_grantFree (h.statusWrite e a)
  loadReads := by rw [grantFree_control]; exact fun e => portHolds_grantFree (h.loadReads e)
  idle := by rw [grantFree_control]; exact fun e => silent_grantFree (h.idle e)

/-- The writer asks for nothing in LOADING and IDLE. -/
theorem portAgrees_pollWriter {s : State} (h : PortAgrees s)
    (hw : s.control.engine = .loading ∨ s.control.engine = .idle → s.writer.enabled = false) :
    PortAgrees (pollWriter s) := by
  by_cases he : s.control.engine = .loading ∨ s.control.engine = .idle
  · exact h.of_eq rfl rfl (pollWriter_of_disabled (hw he))
  · obtain ⟨hl, hi⟩ := not_or.mp he
    exact portAgrees_of_noLoadRead hl hi (portHolds_pollWriter (h.loadReads hl) rfl)

theorem disabled_of_engineAgrees {s : State} (h : EngineAgrees s) :
    s.control.engine = .loading ∨ s.control.engine = .idle → s.writer.enabled = false
  | .inl e => (h.loading e).1
  | .inr e => (h.idle e).1

/-- Both parts. -/
structure Agrees (s : State) : Prop where
  parts : EngineAgrees s
  port : PortAgrees s

theorem agrees_grantFree {s : State} (h : Agrees s) : Agrees (grantFree s) where
  parts := h.parts.of_eq (by simp) (by simp) (by simpa using h.parts.planReason) (by simp) (by simp)
    (grantFree_sameWork s).1 (by simp) (by simp)
  port := portAgrees_grantFree h.port

theorem agrees_settlePort {s : State} (h : Agrees s) : Agrees (settlePort s) :=
  agrees_grantFree ⟨h.parts.of_eq rfl rfl h.parts.planReason rfl rfl rfl rfl rfl,
    portAgrees_pollWriter h.port (disabled_of_engineAgrees h.parts)⟩

/-- A change of items that neither part looks at. -/
theorem Agrees.of_eq {s t : State} (h : Agrees s) (hc : SameEngine s.control t.control)
    (hf : t.timer.frameTime.isSome = s.timer.frameTime.isSome) (hw : t.writer.enabled = s.writer.enabled)
    (ha : t.service.activity = s.service.activity) (hl : t.loader.readOut = s.loader.readOut)
    (hs : t.health.score = s.health.score) (hp : t.port = s.port) : Agrees t where
  parts := h.parts.of_eq hc.engine hc.pending (by rw [hc.readback]; exact h.parts.planReason) hf hw ha hl hs
  port := h.port.of_eq hc.engine ha hp

/-! ## Commands -/

theorem agrees_reset (s : State) : Agrees (resetPart s) where
  parts := engineAgrees_of_rest ⟨nofun, nofun⟩ nofun rfl rfl (fun _ => ⟨rfl, rfl, rfl⟩) nofun (planReasonSound_of_none rfl)
  port := portAgrees_of_silent (silent_iff.mpr ⟨rfl, rfl, rfl, rfl⟩)

theorem agrees_takeLoad {s : State} (h : Agrees s) (he : s.control.engine = .idle) : Agrees (takeLoad s) := by
  have hlive : s.port.live = none := (h.port.idle he).2
  refine agrees_grantFree ⟨?parts, ?port⟩
  case parts =>
    exact
      { frames := by simp [requestService, Timer.loaded, Timer.reset]
        load := by simp [requestService]
        stop := nofun
        resume := nofun
        loading := fun _ => ⟨rfl, .inl rfl⟩
        statusWrite := fun _ => nofun
        idle := nofun
        halted := nofun
        score := fun _ => rfl
        planReason := planReasonSound_of_none rfl }
  case port =>
    refine ⟨fun _ => ⟨rfl, rfl, fun hl => ?_⟩, fun _ => nofun, fun hl => absurd rfl hl, nofun⟩
    have hn : s.port.live.isSome = true := hl
    simp [hlive] at hn

theorem frameTime_none_of {s : State} (h : EngineAgrees s) (hr : s.control.engine ≠ .running) (hh : s.control.engine ≠ .held) :
    s.timer.frameTime = none := by
  have hn : ¬ s.timer.frameTime.isSome = true := mt h.frames.mp (by simp [hr, hh])
  simpa using hn

/-- R136: START leaves the closing write as it was, or gives it up. -/
theorem noLoadRead_startShared {s : State} (h : NoLoadRead s.port) (e : EngineState) :
    NoLoadRead (startShared e s).port := by
  refine h.mono (fun q w hq => ?_) fun x hx => ?_
  · simp only [startShared] at hq
    split at hq
    · cases q with
      | service => exact absurd hq nofun
      | writer => exact hq
      | loader => exact hq
    · exact hq
  · rw [live_eq_some] at hx ⊢
    rw [startShared_outstanding] at hx
    exact hx

theorem agrees_startInternal {s : State} (h : Agrees s) (he : s.control.engine = .armed) (hp : s.control.pending = .none) :
    Agrees (settlePort (startInternal s)) := by
  have hread : NoLoadRead s.port := h.port.loadReads (by simp [he])
  have hengine : (startInternal s).control.engine = .running := by simp [startInternal]
  refine agrees_settlePort ⟨engineAgrees_of_run (.inl hengine) rfl ?_ ?_ ?_,
    portAgrees_of_noLoadRead (by simp [hengine]) (by simp [hengine]) ?_⟩
  · simp [startInternal, hp]
  · simp [startInternal, hp]
  · exact planReasonSound_of_none (by simp [startInternal])
  · exact noLoadRead_startShared hread .running

theorem agrees_startExternal {s : State} (h : Agrees s) (he : s.control.engine = .armed) (hp : s.control.pending = .none) :
    Agrees (startExternal s) := by
  have hf : s.timer.frameTime = none := frameTime_none_of h.parts (by simp [he]) (by simp [he])
  have hread : NoLoadRead s.port := h.port.loadReads (by simp [he])
  exact ⟨engineAgrees_of_rest ⟨nofun, nofun⟩ nofun hf hp nofun nofun (planReasonSound_of_none rfl),
    portAgrees_of_noLoadRead nofun nofun (noLoadRead_startShared hread .syncWait)⟩

theorem agrees_stopPends {s : State} (h : Agrees s) (he : s.control.engine = .running ∨ s.control.engine = .held) :
    Agrees (stopPends s) where
  parts := engineAgrees_of_run he (h.parts.frames.mpr he) nofun nofun (planReasonSound_of_none rfl)
  port := h.port.of_eq rfl rfl rfl

theorem agrees_stopInSyncWait {s : State} (h : Agrees s) (he : s.control.engine = .syncWait)
    (hp : s.control.pending = .none) : Agrees (stopInSyncWait s) := by
  have hf : s.timer.frameTime = none := frameTime_none_of h.parts (by simp [he]) (by simp [he])
  exact agrees_settlePort ⟨engineAgrees_of_rest ⟨nofun, nofun⟩ nofun hf hp nofun nofun (planReasonSound_of_none rfl),
    portAgrees_of_noLoadRead nofun nofun (h.port.loadReads (by simp [he]))⟩

theorem agrees_takeResume {s : State} (h : Agrees s) (he : s.control.engine = .held) : Agrees (takeResume s) where
  parts := engineAgrees_of_run (.inr he) (h.parts.frames.mpr (.inr he)) nofun (fun _ => he) (planReasonSound_of_none rfl)
  port := h.port.of_eq rfl rfl rfl

theorem halted_engine (c : Control) : c.halted.engine = .halted := rfl
theorem halted_pending (c : Control) : c.halted.pending = .none := rfl

/-- R164, R168: HALT leaves no plan reason in the readback. -/
theorem halted_planReason (c : Control) : c.halted.readback.planReason = .none := by
  unfold Control.halted
  cases c.pending <;> rfl

/-- R146, R148: an abandoned port has no request that waits and no transfer whose result is wanted. -/
theorem silent_abandon (p : Port) : Silent p.abandon := by
  refine silent_iff.mpr ⟨?_, rfl, rfl, rfl⟩
  simp [Port.abandon, Port.discardIf, Port.live]

theorem agrees_haltEngine (s : State) : Agrees (haltEngine s) where
  parts := engineAgrees_of_rest ⟨nofun, nofun⟩ nofun rfl rfl nofun (fun _ => rfl)
    (planReasonSound_of_none (halted_planReason _))
  port := portAgrees_of_silent (silent_abandon s.port)

theorem agrees_haltAgain {s : State} (h : Agrees s) (he : s.control.engine = .halted) (hp : s.control.pending = .none) :
    Agrees (haltAgain s) := by
  have hf : s.timer.frameTime = none := frameTime_none_of h.parts (by simp [he]) (by simp [he])
  exact ⟨engineAgrees_of_rest (s := haltAgain s) (by simp [haltAgain, he]) (by simp [haltAgain, he]) hf hp
      (fun hi => by simp [haltAgain, he] at hi) (fun _ => rfl) (planReasonSound_of_none rfl),
    portAgrees_of_noLoadRead (by simp [haltAgain, he]) (by simp [haltAgain, he]) (h.port.loadReads (by simp [he]))⟩

theorem agrees_takeClear (s : State) : Agrees (takeClear s) where
  parts := engineAgrees_of_rest ⟨nofun, nofun⟩ nofun rfl rfl (fun _ => ⟨rfl, rfl, rfl⟩) nofun (planReasonSound_of_none rfl)
  port := by
    obtain ⟨hw, hl⟩ := silent_abandon s.port
    refine portAgrees_of_silent ⟨fun q => ?_, hl⟩
    have h := hw q
    cases q <;> exact h

/-- In HALTED nothing is pending. -/
theorem pending_none_of_halted {s : State} (h : EngineAgrees s) (he : s.control.engine = .halted) :
    s.control.pending = .none := by
  cases hp : s.control.pending with
  | none => rfl
  | load => simp [h.load.mp hp] at he
  | stop => obtain hr | hr := h.stop hp <;> simp [hr] at he
  | resume => simp [h.resume hp] at he

theorem agrees_firstEdge {s : State} (h : Agrees s) (he : s.control.engine = .syncWait) : Agrees (firstEdge s) := by
  have hload : s.control.pending ≠ .load := fun hp => by simp [h.parts.load.mp hp] at he
  have hresume : s.control.pending ≠ .resume := fun hp => by simp [h.parts.resume hp] at he
  refine agrees_settlePort ⟨engineAgrees_of_run (by simp) rfl (by simpa using hload) (fun hp => ?_) ?_,
    portAgrees_of_noLoadRead (by simp) (by simp) (h.port.loadReads (by simp [he]))⟩
  · exact absurd (by simpa using hp) hresume
  · simpa using h.parts.planReason

/-! ## Frame ends -/

/-- R14, R170: what follows the ended frame, by the engine state it leaves. -/
theorem frameEnd_cases {s : State} (he : s.control.engine = .running ∨ s.control.engine = .held) (missing : Bool) :
    let r := s.endingSettlement missing
    ((r.engine = .running ∨ r.engine = .held)
        ∧ ∃ b, frameEnd missing s = frameStart r.record b (endedFrame missing s))
      ∨ (r.engine = .armed ∧ frameEnd missing s = stopCompletes r.record (endedFrame missing s))
      ∨ (r.engine = .halted ∧ frameEnd missing s = verdictHalts r.record (endedFrame missing s)) := by
  intro r
  obtain h | h | h | h := settle_engine he s.control.pending
    (verdict s.control.setup (s.endingScore missing) s.control.engine s.control.pending)
  · exact .inl ⟨.inl h, _, (frameEnd_eq missing s).trans (afterSettlement_of_goesOn (.inl h) _ _)⟩
  · exact .inl ⟨.inr h, _, (frameEnd_eq missing s).trans (afterSettlement_of_goesOn (.inr h) _ _)⟩
  · exact .inr (.inl ⟨h, (frameEnd_eq missing s).trans (afterSettlement_of_armed h _ _)⟩)
  · exact .inr (.inr ⟨h, (frameEnd_eq missing s).trans (afterSettlement_of_halted h _ _)⟩)

/-- R170: a frame end completes or overrides what is pending. -/
theorem settle_ended {e : EngineState} {p : PendingCommand} (hn : p ≠ .none) (hl : p ≠ .load) (v : Verdict) :
    (settle e p v).ended ≠ none := by
  cases p with
  | none => exact absurd rfl hn
  | load => exact absurd rfl hl
  | stop => cases v <;> exact nofun
  | resume => cases v <;> exact nofun

theorem endedFrame_pending_none {s : State} (hl : s.control.pending ≠ .load) (missing : Bool) :
    (endedFrame missing s).control.pending = .none := by
  rw [endedFrame_control, settled_pending]
  split
  · next hended =>
    by_contra hn
    have hp : s.control.pending ≠ .none := by simpa [serviceFrameEnd_control] using hn
    exact settle_ended hp hl _ hended
  · rfl

theorem endedFrame_planReason {s : State} (h : PlanReasonSound s.control.readback) (missing : Bool) :
    PlanReasonSound (endedFrame missing s).control.readback := by
  rw [endedFrame_control, settled_readback]
  cases (s.endingSettlement missing).ended with
  | none => simpa [serviceFrameEnd_control] using h
  | some o => exact planReasonSound_of_none rfl

/-- R133: a frame end asks for nothing at the port. -/
theorem portHolds_serviceFrameEnd {P : Requester → TransferKind → Prop} {s : State} (h : PortHolds P s.port) :
    PortHolds P (serviceFrameEnd s).port := by
  obtain ⟨-, -, -, hp⟩ | ⟨-, -, -, hp⟩ | ⟨-, -, hp⟩ := serviceFrameEnd_service_cases s <;> rw [hp]
  · exact h
  · refine h.mono (fun q w hq => ?_) fun x hx => hx
    cases q with
    | service => exact absurd hq nofun
    | writer => exact hq
    | loader => exact hq
  · exact h

/-- R147: a HALT verdict asks for nothing at the port. -/
theorem portHolds_verdictHalt {P : Requester → TransferKind → Prop} {p : Port} (h : PortHolds P p) :
    PortHolds P p.verdictHalt := by
  refine h.mono (fun q w hq => ?_) fun x hx => ?_
  · cases q with
    | service => exact absurd hq nofun
    | writer => exact hq
    | loader => exact absurd hq nofun
  · rw [live_eq_some] at hx ⊢
    obtain ⟨ho, hd⟩ := hx
    obtain ⟨y, hy, rfl⟩ := Option.map_eq_some_iff.mp ho
    split at hd
    · exact absurd hd nofun
    · next hq => exact ⟨by rw [hy, if_neg hq], by rw [if_neg hq]; exact hd⟩

theorem agrees_frameEnd {s : State} (h : Agrees s) (hf : s.timer.frameTime.isSome = true) (missing : Bool) :
    Agrees (frameEnd missing s) := by
  have he := h.parts.frames.mp hf
  have hload : s.control.pending ≠ .load := fun hp => by
    have := h.parts.load.mp hp
    obtain he | he := he <;> simp [he] at this
  have hpending := endedFrame_pending_none hload missing
  have hreason := endedFrame_planReason h.parts.planReason missing
  have hengine : (endedFrame missing s).control.engine = (s.endingSettlement missing).engine := by simp
  have hport : NoLoadRead (endedFrame missing s).port :=
    portHolds_serviceFrameEnd (h.port.loadReads (by obtain he | he := he <;> simp [he]))
  obtain ⟨hr, b, e⟩ | ⟨hr, e⟩ | ⟨hr, e⟩ := frameEnd_cases he missing <;> rw [e]
  case inl =>
    have hrun : (frameStart (s.endingSettlement missing).record b (endedFrame missing s)).control.engine
        = (s.endingSettlement missing).engine := by rw [frameStart_control, raiseIf_engine, hengine]
    refine ⟨engineAgrees_of_run (hrun ▸ hr) rfl ?_ (fun hp => ?_) ?_, portAgrees_of_noLoadRead ?_ ?_ hport⟩
    · rw [frameStart_control, raiseIf_pending, hpending]; exact nofun
    · rw [frameStart_control, raiseIf_pending, hpending] at hp; exact absurd hp nofun
    · rw [frameStart_control, raiseIf_readback]; exact hreason
    · rw [hrun]; obtain hr | hr := hr <;> simp [hr]
    · rw [hrun]; obtain hr | hr := hr <;> simp [hr]
  case inr.inl =>
    have ha := hengine.trans hr
    exact ⟨engineAgrees_of_rest (s := stopCompletes _ (endedFrame missing s)) (by rw [stopCompletes_control, ha]; exact ⟨nofun, nofun⟩)
      (by rw [stopCompletes_control, ha]; exact nofun) rfl hpending
      (fun hi => by rw [stopCompletes_control, ha] at hi; exact absurd hi nofun)
      (fun hi => by rw [stopCompletes_control, ha] at hi; exact absurd hi nofun) hreason,
      portAgrees_of_noLoadRead (by rw [stopCompletes_control, ha]; exact nofun)
        (by rw [stopCompletes_control, ha]; exact nofun) hport⟩
  case inr.inr =>
    have ha := hengine.trans hr
    exact ⟨engineAgrees_of_rest (s := verdictHalts _ (endedFrame missing s)) (by rw [verdictHalts_control, ha]; exact ⟨nofun, nofun⟩)
      (by rw [verdictHalts_control, ha]; exact nofun) rfl hpending
      (fun hi => by rw [verdictHalts_control, ha] at hi; exact absurd hi nofun) (fun _ => rfl) hreason,
      portAgrees_of_noLoadRead (by rw [verdictHalts_control, ha]; exact nofun)
        (by rw [verdictHalts_control, ha]; exact nofun) (portHolds_verdictHalt hport)⟩

end Sys2Proof.Proofs.EngineAgreement
end

section
/-! PROOFS. The ends of transfers keep the engine state and the blocks in agreement, and the statement: every step keeps it. -/

namespace Sys2Proof.Proofs.EngineConsistency

open Sys2Proof Sys2Proof.Machine Sys2Proof.Proofs.EngineControl Sys2Proof.Proofs.PortGrants Sys2Proof.Proofs.FrameEnds
open Sys2Proof.Proofs.Runs Sys2Proof.Proofs.RunStarts Sys2Proof.Proofs.Moves Sys2Proof.Proofs.Bounds
open Sys2Proof.Proofs.EveryStepKeeps Sys2Proof.Proofs.ServiceWork Sys2Proof.Proofs.KeptBounds
open Sys2Proof.Proofs.PortContents Sys2Proof.Proofs.LoadSteps Sys2Proof.Proofs.LoadOutcomes
open Sys2Proof.Proofs.EngineAgreement

/-! ## The ends of transfers -/

theorem agrees_pollWriter {s : State} (h : Agrees s) : Agrees (pollWriter s) where
  parts := h.parts.of_eq rfl rfl h.parts.planReason rfl rfl rfl rfl rfl
  port := portAgrees_pollWriter h.port (disabled_of_engineAgrees h.parts)

theorem agrees_grantAtEnd {s : State} (h : Agrees s) (b : Port) : Agrees (grantAtEnd b s) where
  parts := h.parts.of_eq (by simp) (by simp) (by simpa using h.parts.planReason) (by simp) (by simp)
    (grantAtEnd_sameWork b s).1 (by simp) (by simp)
  port :=
    { loading := by
        rw [grantAtEnd_control]
        intro e
        obtain ⟨hw, hl, -⟩ := h.port.loading e
        exact oneByOne_grantAtEnd hw hl b
      statusWrite := by
        rw [grantAtEnd_control, (grantAtEnd_sameWork b s).1]
        exact fun e a => portHolds_grantAtEnd (h.port.statusWrite e a) b
      loadReads := by rw [grantAtEnd_control]; exact fun e => portHolds_grantAtEnd (h.port.loadReads e) b
      idle := by rw [grantAtEnd_control]; exact fun e => silent_grantAtEnd (h.port.idle e) b }

/-- The first part in LOADING. -/
theorem engineAgrees_of_loading {s : State} (he : s.control.engine = .loading) (hp : s.control.pending = .load)
    (hf : s.timer.frameTime = none) (hw : s.writer.enabled = false) (hn : NoPass s)
    (hs : s.service.activity = .statusWrite → s.loader.readOut = .none) (h0 : s.health.score = 0)
    (hr : PlanReasonSound s.control.readback) : EngineAgrees s where
  frames := by simp [hf, he]
  load := by simp [hp, he]
  stop h := by simp [hp] at h
  resume h := by simp [hp] at h
  loading _ := ⟨hw, hn⟩
  statusWrite _ := hs
  idle h := by simp [he] at h
  halted h := by simp [he] at h
  score _ := h0
  planReason := hr

/-- The end of the transfer whose result LOAD wanted. -/
theorem inLoad_freePort {s : State} (h : Agrees s) (he : s.control.engine = .loading) {x : Transfer}
    (hx : s.port.live = some x) : InLoad x (freePort s) where
  engine := he
  noPass := (h.parts.loading he).2
  status ha := ⟨h.parts.statusWrite he ha, (h.port.statusWrite he ha).live x hx⟩

/-- In LOADING nothing else is at the port when a transfer whose result is wanted ends. -/
theorem silent_freePort_of_loading {s : State} (h : PortAgrees s) (he : s.control.engine = .loading) {x : Transfer}
    (hx : s.port.live = some x) : Silent (freePort s).port := by
  obtain ⟨hw, hl, hs⟩ := h.loading he
  exact silent_iff.mpr ⟨rfl, hs (by simp [hx]), hw, hl⟩

/-- What LOAD's step leaves is in agreement, whether it goes on, fails or succeeds. -/
theorem agrees_of_loadStep {x : Transfer} {u v : State} (hu : EngineAgrees u) (he : u.control.engine = .loading)
    (hsilent : Silent u.port) (hfree : u.port.outstanding = none) (hstep : LoadStep x u v)
    (hasked : Asked (AskedKind x) u v) (hframe : SameOutsidePort u v) : Agrees v := by
  obtain ⟨-, hs, hw, hl⟩ := silent_iff.mp hsilent
  have hlive : v.port.live = none := live_of_free (hasked.outstanding.trans hfree)
  have hvw : v.port.writer = none := hasked.writer.trans hw
  have hvl : v.port.loader = none := hasked.loader.elim (fun h => h.trans hl) fun h => absurd he h.1
  have hf : v.timer.frameTime = none := by
    rw [hframe.timer]
    exact frameTime_none_of hu (by simp [he]) (by simp [he])
  have h0 : v.health.score = 0 := hframe.score.trans (hu.score (.inr he))
  cases hstep with
  | goesOn hc hn hen hst =>
    have hve : v.control.engine = .loading := hc.engine.trans he
    refine ⟨engineAgrees_of_loading hve (hc.pending.trans (hu.load.mpr he)) hf (hen.trans (hu.loading he).1) hn
      (fun ha => (hst ha).1) h0 (by rw [hc.readback]; exact hu.planReason),
      ⟨fun _ => ⟨hvw, hvl, fun h => by simp [hlive] at h⟩, fun _ ha => ?_, fun e => absurd hve e,
        fun e => by simp [hve] at e⟩⟩
    refine portHolds_of_asked hasked (portHolds_of_silent hsilent) (fun k hk => ?_) fun _ => rfl
    obtain hk | ⟨-, hx⟩ := hk
    · exact hk.2
    · have := (hst ha).2
      simp [hx, TransferKind.isLoadRead] at this
  | fails hfail ha =>
    refine ⟨engineAgrees_of_rest (by simp [hfail.engine]) (by simp [hfail.engine]) hf hfail.pending
      (fun _ => ⟨hfail.enabled.trans (hu.loading he).1, ha, h0⟩) (fun _ => ha) hfail.reason,
      portAgrees_of_silent (silent_iff.mpr ⟨hlive, hfail.port.trans hs, hvw, hvl⟩)⟩
  | succeeds hok =>
    refine ⟨engineAgrees_of_rest (by simp [hok.engine]) (by simp [hok.engine]) hf hok.pending
      (fun e => by simp [hok.engine] at e) (fun _ => hok.activity) (planReasonSound_of_none hok.reason),
      portAgrees_of_silent (silent_iff.mpr ⟨hlive, hok.port.trans hs, hvw, hvl⟩)⟩

/-- Outside LOADING and IDLE the first part looks at Engine Control and the Frame Timer alone, and in HALTED at the Service
Unit. -/
theorem engineAgrees_of_sameEngine {u v : State} (hu : EngineAgrees u) (hl : u.control.engine ≠ .loading)
    (hi : u.control.engine ≠ .idle) (hc : SameEngine u.control v.control) (hf : v.timer = u.timer)
    (ha : u.service.activity = .none → v.service.activity = .none) : EngineAgrees v where
  frames := by rw [hc.engine, hf]; exact hu.frames
  load := by rw [hc.engine, hc.pending]; exact hu.load
  stop := by rw [hc.engine, hc.pending]; exact hu.stop
  resume := by rw [hc.engine, hc.pending]; exact hu.resume
  loading e := absurd (hc.engine.symm.trans e) hl
  statusWrite e := absurd (hc.engine.symm.trans e) hl
  idle e := absurd (hc.engine.symm.trans e) hi
  halted e := ha (hu.halted (hc.engine.symm.trans e))
  score e := by rw [hc.engine] at e; obtain e | e := e <;> [exact absurd e hi; exact absurd e hl]
  planReason := by rw [hc.readback]; exact hu.planReason

/-- No request of a transfer that is no read of LOAD is one. -/
theorem noLoadRead_of_asked {x : Transfer} {u v : State} (h : Asked (AskedKind x) u v) (hx : x.kind.isLoadRead = false)
    (hu : NoLoadRead u.port) : NoLoadRead v.port := by
  refine portHolds_of_asked h hu (fun k hk => ?_) fun _ => rfl
  obtain hk | ⟨-, hs⟩ := hk
  · exact hk.2
  · simp [hs, TransferKind.isLoadRead] at hx

theorem agrees_answers {s : State} (h : Agrees s) {x : Transfer} {f : State → State} (hx : s.port.live = some x)
    (hf : Answers x f) : Agrees (f (freePort s)) := by
  have hasked := answers_asked hf (freePort s)
  have hframe := answers_frame hf (freePort s)
  have hparts : EngineAgrees (freePort s) := h.parts.of_eq rfl rfl h.parts.planReason rfl rfl rfl rfl rfl
  by_cases he : s.control.engine = .loading
  · exact agrees_of_loadStep hparts he (silent_freePort_of_loading h.port he hx) rfl
      (answers_loadStep hf (inLoad_freePort h he hx)) hasked hframe
  · have hi : s.control.engine ≠ .idle := fun e => by simp [(h.port.idle e).2] at hx
    have hread : x.kind.isLoadRead = false := (h.port.loadReads he).live x hx
    have hc := answers_sameEngine hf (u := freePort s) he hread
    have hve : (f (freePort s)).control.engine = s.control.engine := hc.engine
    exact ⟨engineAgrees_of_sameEngine hparts he hi hc hframe.timer (answers_idle hf he),
      portAgrees_of_noLoadRead (by rw [hve]; exact he) (by rw [hve]; exact hi)
        (noLoadRead_of_asked hasked hread (portHolds_freePort (h.port.loadReads he)))⟩

theorem agrees_freePort {s : State} (h : Agrees s) : Agrees (freePort s) where
  parts := h.parts.of_eq rfl rfl h.parts.planReason rfl rfl rfl rfl rfl
  port :=
    { loading := fun e => ⟨(h.port.loading e).1, (h.port.loading e).2.1, fun hn => by simp [freePort, Port.live] at hn⟩
      statusWrite := fun e a => portHolds_freePort (h.port.statusWrite e a)
      loadReads := fun e => portHolds_freePort (h.port.loadReads e)
      idle := fun e => by
        obtain ⟨-, hs, hw, hl⟩ := silent_iff.mp (h.port.idle e)
        exact silent_iff.mpr ⟨rfl, hs, hw, hl⟩ }

/-! ## The service window and the closing write -/

theorem noLoadRead_of_plain {u v : State} (h : Asked PlainKind u v) (hu : NoLoadRead u.port) : NoLoadRead v.port :=
  portHolds_of_asked h hu (fun _ hk => hk.2) fun _ => rfl

theorem agrees_serviceWindow {s : State} (h : Agrees s) (hf : s.timer.frameTime.isSome = true) :
    Agrees (serviceWindow s) := by
  have he := h.parts.frames.mp hf
  have hl : s.control.engine ≠ .loading := by obtain he | he := he <;> simp [he]
  have hi : s.control.engine ≠ .idle := by obtain he | he := he <;> simp [he]
  have hh : s.control.engine ≠ .halted := by obtain he | he := he <;> simp [he]
  have hload : s.control.pending ≠ .load := fun hp => hl (h.parts.load.mp hp)
  unfold serviceWindow
  dsimp only
  split
  · refine agrees_grantFree ⟨engineAgrees_of_run he hf hload h.parts.resume h.parts.planReason,
      portAgrees_of_noLoadRead hl hi ?_⟩
    exact noLoadRead_of_plain (u := s) ⟨rfl, rfl, .inr ⟨_, rfl, plainKind_of_work workKind_stepARead⟩, .inl rfl⟩
      (h.port.loadReads hl)
  all_goals exact h.of_eq .rfl rfl rfl rfl rfl rfl rfl

theorem agrees_beginClosing {s : State} (h : Agrees s) (ha : s.service.activity = .closingWait) :
    Agrees (beginClosing s) := by
  have hl : s.control.engine ≠ .loading := fun e => by
    obtain hn | hn := (h.parts.loading e).2 <;> simp [ha] at hn
  have hi : s.control.engine ≠ .idle := fun e => by simp [(h.parts.idle e).2] at ha
  have hasked : Asked PlainKind s (beginClosing s) :=
    ⟨rfl, rfl, .inr ⟨_, rfl, plainKind_of_work workKind_statusFirst⟩, .inl rfl⟩
  exact ⟨engineAgrees_of_sameEngine h.parts hl hi .rfl rfl fun hn => by simp [ha] at hn,
    portAgrees_of_noLoadRead hl hi (noLoadRead_of_plain hasked (h.port.loadReads hl))⟩

/-! ## Every move, every step -/

theorem sampleLines_writer (ls : List Line) (s : State) : (sampleLines ls s).writer = s.writer := by
  induction ls generalizing s with
  | nil => rfl
  | cons l ls ih => exact (ih (sampleLine l s)).trans (sampleLine_writer l s)

theorem sampleLines_loader (ls : List Line) (s : State) : (sampleLines ls s).loader = s.loader := by
  induction ls generalizing s with
  | nil => rfl
  | cons l ls ih => exact (ih (sampleLine l s)).trans (sampleLine_loader l s)

theorem sampleLines_port (ls : List Line) (s : State) : (sampleLines ls s).port = s.port := by
  induction ls generalizing s with
  | nil => rfl
  | cons l ls ih => exact (ih (sampleLine l s)).trans (sampleLine_port l s)

theorem agrees_sampleLines {s : State} (h : Agrees s) (ls : List Line) : Agrees (sampleLines ls s) :=
  h.of_eq (sameEngine_of_eq (sampleLines_control ls s)) (by rw [sampleLines_timer]) (by rw [sampleLines_writer])
    (by rw [sampleLines_service]) (by rw [sampleLines_loader]) (sampleLines_score ls s) (sampleLines_port ls s)

theorem agrees_minislot {s : State} (h : Agrees s) (m : Nat) : Agrees (minislotStarts m s) := by
  obtain ⟨v, q, e | ⟨p, body, -, e⟩⟩ := minislotStarts_cases m s <;> rw [e]
  · exact h.of_eq .rfl rfl rfl rfl rfl rfl rfl
  · exact agrees_settlePort (h.of_eq .rfl rfl rfl rfl rfl rfl rfl)

theorem sameEngine_writeXbase (c : Control) (high : Bool) (w : Word) : SameEngine c (c.writeXbase high w) := by
  unfold Control.writeXbase
  split
  · exact ⟨rfl, rfl, rfl⟩
  · exact .rfl

/-- R1, R157 to R164, R177: every move keeps both parts. -/
theorem move_agrees {s t : State} (hm : Move s t) (h : Agrees s) : Agrees t := by
  cases hm with
  | stays => exact h
  | reset => exact agrees_reset s
  | refused =>
    exact ⟨h.parts.of_eq rfl rfl (planReasonSound_of_none rfl) rfl rfl rfl rfl rfl, h.port.of_eq rfl rfl rfl⟩
  | load he => exact agrees_takeLoad h he
  | startInternal he hp => exact agrees_startInternal h he hp
  | startExternal he hp => exact agrees_startExternal h he hp
  | stopPends he => exact agrees_stopPends h he
  | stopInSyncWait he hp => exact agrees_stopInSyncWait h he hp
  | resume he => exact agrees_takeResume h he
  | halt => exact agrees_haltEngine s
  | haltAgain he => exact agrees_haltAgain h he (pending_none_of_halted h.parts he)
  | clear => exact agrees_takeClear s
  | xbase high w => exact h.of_eq (sameEngine_writeXbase _ high w) rfl rfl rfl rfl rfl rfl
  | cause => exact h.of_eq ⟨rfl, rfl, rfl⟩ rfl rfl rfl rfl rfl rfl
  | mask => exact h.of_eq ⟨rfl, rfl, rfl⟩ rfl rfl rfl rfl rfl rfl
  | sample => exact h.of_eq .rfl rfl rfl rfl rfl rfl rfl
  | firstEdge level he => exact agrees_firstEdge (s := sampleSync level s) (h.of_eq .rfl rfl rfl rfl rfl rfl rfl) he
  | earlyEdge level => exact h.of_eq .rfl rfl rfl rfl rfl (earlyEdge_score (sampleSync level s)) rfl
  | frameEnd missing u hu hf =>
    have hu : Agrees u ∧ u.timer.frameTime.isSome = true := by
      obtain rfl | ⟨level, rfl⟩ := hu
      · exact ⟨h, hf⟩
      · exact ⟨h.of_eq .rfl rfl rfl rfl rfl rfl rfl, hf⟩
    exact agrees_settlePort (agrees_frameEnd hu.1 hu.2 missing)
  | lineEdge levels =>
    have hu : Agrees { s with outside := { s.outside with lines := levels } } := h.of_eq .rfl rfl rfl rfl rfl rfl rfl
    exact agrees_settlePort (agrees_sampleLines hu _)
  | instant t hf => exact h.of_eq .rfl (congrArg Option.isSome hf) rfl rfl rfl rfl rfl
  | lines => exact h.of_eq .rfl rfl rfl rfl rfl rfl rfl
  | closeWindow => exact h.of_eq .rfl rfl rfl rfl rfl rfl rfl
  | dynamic => exact h.of_eq .rfl rfl rfl rfl rfl rfl rfl
  | minislot m => exact agrees_minislot h m
  | spotEnd => exact h.of_eq (sameEngine_of_eq (by simp)) (by simp) (by simp) (by simp) (by simp) (by simp) (by simp)
  | service hf => exact agrees_serviceWindow h hf
  | closing ha => exact agrees_grantFree (agrees_beginClosing h ha)
  | ends x f ho hd hf =>
    exact agrees_grantAtEnd (agrees_pollWriter (agrees_answers h (live_eq_some.mpr ⟨ho, hd⟩) hf)) _
  | discarded => exact agrees_grantAtEnd (agrees_pollWriter (agrees_freePort h)) _

theorem agrees_advanceTick {s : State} (h : Agrees s) : Agrees (advanceTick s) :=
  h.of_eq .rfl (by simp [advanceTick]) rfl rfl rfl rfl rfl

theorem agrees_withPending {s : State} (h : Agrees s) (l : List Instr) : Agrees { s with pending := l } :=
  h.of_eq .rfl rfl rfl rfl rfl rfl rfl

theorem agrees_iff (s : State) : s.Consistent ↔ Agrees s :=
  (consistent_iff s).trans ⟨fun h => ⟨h.1, h.2⟩, fun h => ⟨h.parts, h.port⟩⟩

/-- Settles O4: both parts of the invariant are kept by every move and by a tick. -/
theorem everyStepKeepsEngineConsistent : Obligations.EveryStepKeepsEngineConsistent := by
  intro s t hs h
  refine (agrees_iff t).mpr (step_keeps (P := fun s t => Agrees s → Agrees t) ?_ ?_ ?_ ?_ h ((agrees_iff s).mp hs))
  · exact fun s l t h hs => h (agrees_withPending hs l)
  · exact fun s l hs => agrees_withPending hs l
  · exact fun s hs => agrees_advanceTick hs
  · exact fun s t hm hs => move_agrees hm hs

end Sys2Proof.Proofs.EngineConsistency
end

section
/-! PROOFS. The two banks (R50 to R52, R56, R71): what the operations of the Timetable Store make of the banks' states, and when
they stay sound. -/

namespace Sys2Proof.Proofs.Banks

open Sys2Proof Sys2Proof.Machine Sys2Proof.Proofs.FrameEnds

/-! ## Counting bank states -/

/-- How many of two bank states satisfy `p`. -/
def stateCount (p : BankState → Bool) (a b : BankState) : Nat := (if p a then 1 else 0) + (if p b then 1 else 0)

/-- How many of two banks are CURRENT, are FILLING, and are FILLING or PENDING. -/
abbrev currents (a b : BankState) : Nat := stateCount (· == .current) a b
abbrev fillings (a b : BankState) : Nat := stateCount (· == .filling) a b
abbrev incomings (a b : BankState) : Nat := stateCount BankState.incoming a b

/-- R51: the state of a bank when a load ends without a plan. -/
def dropped : BankState → BankState
  | .filling => .free
  | .free => .free
  | .pending => .pending
  | .current => .current

/-- R61: the state of a bank when validation passes, in a run and in LOAD. -/
def passed (new : BankState) : BankState → BankState
  | .filling => new
  | .free => .free
  | .pending => .pending
  | .current => .current

/-- R52: the state of a bank after a switch. -/
def switched : BankState → BankState
  | .pending => .current
  | .current => .free
  | .free => .free
  | .filling => .filling

theorem counts_dropped (a b : BankState) : currents (dropped a) (dropped b) = currents a b
    ∧ fillings (dropped a) (dropped b) = 0 ∧ incomings (dropped a) (dropped b) ≤ incomings a b := by
  cases a <;> cases b <;> decide

theorem counts_passed_pending (a b : BankState) : currents (passed .pending a) (passed .pending b) = currents a b
    ∧ fillings (passed .pending a) (passed .pending b) = 0
    ∧ incomings (passed .pending a) (passed .pending b) = incomings a b := by
  cases a <;> cases b <;> decide

/-- R52, R67: with one bank CURRENT and one PENDING, a switch leaves one CURRENT and the other FREE. -/
theorem counts_switched {a b : BankState} (hc : currents a b = 1) (hi : incomings a b ≤ 1)
    (hp : a = .pending ∨ b = .pending) : fillings a b = 0 ∧ currents (switched a) (switched b) = 1
    ∧ fillings (switched a) (switched b) = 0 ∧ incomings (switched a) (switched b) = 0 := by
  obtain rfl | rfl := hp
  · cases b <;> revert hc hi <;> decide
  · cases a <;> revert hc hi <;> decide

/-- R51: with one bank CURRENT and none FILLING or PENDING, a load fills the other. -/
theorem counts_started {a b : BankState} (hc : currents a b = 1) (hf : fillings a b = 0) (ha : a ≠ .pending)
    (hb : b ≠ .pending) : (a = .current ∧ b = .free) ∨ (a = .free ∧ b = .current) := by
  cases a <;> cases b <;> revert hc hf ha hb <;> decide

/-! ## The states of the banks after an operation -/

theorem onFilling_states (s : Store) {f : Bank → Bank} {g : BankState → BankState}
    (hf : ∀ b : Bank, b.state = .filling → (f b).state = g .filling) (hg : ∀ a, a ≠ .filling → g a = a) :
    (s.onFilling f).bank0.state = g s.bank0.state ∧ (s.onFilling f).bank1.state = g s.bank1.state := by
  have hbank : ∀ b : Bank, (if b.state = .filling then f b else b).state = g b.state := by
    intro b
    split
    · next h => rw [hf b h, h]
    · next h => rw [hg _ h]
  exact ⟨hbank s.bank0, hbank s.bank1⟩

theorem dropFilling_states (s : Store) :
    s.dropFilling.bank0.state = dropped s.bank0.state ∧ s.dropFilling.bank1.state = dropped s.bank1.state :=
  onFilling_states s (fun _ _ => rfl) fun a ha => by cases a <;> simp_all [dropped]

theorem makePending_states (s : Store) : s.makePending.bank0.state = passed .pending s.bank0.state
    ∧ s.makePending.bank1.state = passed .pending s.bank1.state :=
  onFilling_states s (f := fun b => { b with state := .pending }) (fun _ _ => rfl)
    fun a ha => by cases a <;> simp_all [passed]

theorem makeCurrent_states (s : Store) : s.makeCurrent.bank0.state = passed .current s.bank0.state
    ∧ s.makeCurrent.bank1.state = passed .current s.bank1.state :=
  onFilling_states s (fun _ _ => rfl) fun a ha => by cases a <;> simp_all [passed]

theorem take_states (s : Store) (bytes : List Byte) :
    (s.take bytes).bank0.state = s.bank0.state ∧ (s.take bytes).bank1.state = s.bank1.state :=
  onFilling_states s (g := id) (fun _ hb => hb) fun _ _ => rfl

theorem switch_states (s : Store) :
    s.switch.bank0.state = switched s.bank0.state ∧ s.switch.bank1.state = switched s.bank1.state := by
  have hbank : ∀ b : Bank, b.switch.state = switched b.state := by
    intro b
    cases hb : b.state <;> simp [Bank.switch, switched, hb, Bank.free]
  exact ⟨hbank s.bank0, hbank s.bank1⟩

/-! ## Soundness -/

/-- The engine states in which one bank is CURRENT (R50). -/
def HasPlan (e : EngineState) : Prop := e = .armed ∨ e = .syncWait ∨ e = .running ∨ e = .held

/-- What the engine state, the banks' states and the Loader agree on. -/
structure BanksAgree (e : EngineState) (a b : BankState) (filling : Bool) (read : ReadOutstanding) : Prop where
  one : HasPlan e → currents a b = 1
  atMostOne : currents a b ≤ 1
  incoming : incomings a b ≤ 1
  filled : fillings a b = if filling then 1 else 0
  loads : filling = true → e = .loading ∨ e = .running ∨ e = .held
  reads : read = .currentLoad → filling = true
  loading : e = .loading → b = .free ∧ a ≠ .pending
  idle : e = .idle → a = .free ∧ b = .free

/-- The banks of a state agree with its engine state and its Loader. -/
def Sound (s : State) : Prop :=
  BanksAgree s.control.engine s.store.bank0.state s.store.bank1.state s.loader.filling s.loader.readOut

/-- Two FREE banks agree with every engine state that asks for no plan. -/
theorem banksAgree_free {e : EngineState} (he : ¬ HasPlan e) {read : ReadOutstanding} (hr : read ≠ .currentLoad) :
    BanksAgree e .free .free false read where
  one h := absurd h he
  atMostOne := by decide
  incoming := by decide
  filled := by decide
  loads := nofun
  reads h := absurd h hr
  loading _ := ⟨rfl, nofun⟩
  idle _ := ⟨rfl, rfl⟩

/-- The engine state moves and the banks stay. -/
theorem BanksAgree.withEngine {e e' : EngineState} {a b : BankState} {f : Bool} {r : ReadOutstanding}
    (h : BanksAgree e a b f r) (hp : HasPlan e' → HasPlan e) (hl : e' ≠ .loading) (hi : e' ≠ .idle)
    (hf : f = true → e' = .running ∨ e' = .held) : BanksAgree e' a b f r :=
  { h with
    one := fun k => h.one (hp k)
    loads := fun k => .inr (hf k)
    loading := fun k => absurd k hl
    idle := fun k => absurd k hi }

/-- The Loader's read moves and the banks stay. -/
theorem BanksAgree.withRead {e : EngineState} {a b : BankState} {f : Bool} {r r' : ReadOutstanding}
    (h : BanksAgree e a b f r) (hr : r' = .currentLoad → f = true) : BanksAgree e a b f r' :=
  { h with reads := hr }

/-- The banks stand in states equal to those that agree. -/
theorem BanksAgree.of_states {e : EngineState} {a b a' b' : BankState} {f : Bool} {r : ReadOutstanding}
    (h : BanksAgree e a b f r) (ha : a' = a) (hb : b' = b) : BanksAgree e a' b' f r := by
  rw [ha, hb]
  exact h

/-- R51: a load ends without a plan, and the engine state may move to one that asks for no more. -/
theorem BanksAgree.drop {e e' : EngineState} {a b : BankState} {f : Bool} {r r' : ReadOutstanding}
    (h : BanksAgree e a b f r) (hp : HasPlan e' → HasPlan e) (hl : e' ≠ .loading) (hi : e' ≠ .idle)
    (hr : r' ≠ .currentLoad) : BanksAgree e' (dropped a) (dropped b) false r' := by
  obtain ⟨hc, hz, hle⟩ := counts_dropped a b
  exact
    { one := fun k => hc.trans (h.one (hp k))
      atMostOne := hc ▸ h.atMostOne
      incoming := hle.trans h.incoming
      filled := hz
      loads := nofun
      reads := fun k => absurd k hr
      loading := fun k => absurd k hl
      idle := fun k => absurd k hi }

/-- R61: validation passes in a run. -/
theorem BanksAgree.pend {e : EngineState} {a b : BankState} {f : Bool} {r r' : ReadOutstanding}
    (h : BanksAgree e a b f r) (hl : e ≠ .loading) (hi : e ≠ .idle) (hr : r' ≠ .currentLoad) :
    BanksAgree e (passed .pending a) (passed .pending b) false r' := by
  obtain ⟨hc, hz, hle⟩ := counts_passed_pending a b
  exact
    { one := fun k => hc.trans (h.one k)
      atMostOne := hc ▸ h.atMostOne
      incoming := hle ▸ h.incoming
      filled := hz
      loads := nofun
      reads := fun k => absurd k hr
      loading := fun k => absurd k hl
      idle := fun k => absurd k hi }

/-- In LOADING a load fills bank 0. -/
theorem BanksAgree.filling_of_loading {a b : BankState} {r : ReadOutstanding} (h : BanksAgree .loading a b true r) :
    a = .filling ∧ b = .free := by
  obtain ⟨rfl, -⟩ := h.loading rfl
  refine ⟨?_, rfl⟩
  have hf := h.filled
  cases a <;> revert hf <;> decide

/-- R71: the initial plan passes. -/
theorem BanksAgree.makeCurrent {a b : BankState} {r r' : ReadOutstanding} (h : BanksAgree .loading a b true r)
    (hr : r' ≠ .currentLoad) : BanksAgree .loading (passed .current a) (passed .current b) false r' := by
  obtain ⟨rfl, rfl⟩ := h.filling_of_loading
  exact
    { one := fun k => by obtain k | k | k | k := k <;> exact absurd k nofun
      atMostOne := by decide
      incoming := by decide
      filled := by decide
      loads := nofun
      reads := fun k => absurd k hr
      loading := fun _ => ⟨rfl, nofun⟩
      idle := nofun }

/-- R52, R67: the banks switch at a frame start. -/
theorem BanksAgree.switch {e : EngineState} {a b : BankState} {f : Bool} {r : ReadOutstanding}
    (h : BanksAgree e a b f r) (he : e = .running ∨ e = .held) (hp : a = .pending ∨ b = .pending) :
    BanksAgree e (switched a) (switched b) f r := by
  obtain ⟨hf, hc, hz, hi⟩ := counts_switched (h.one (.inr (.inr he))) h.incoming hp
  exact
    { one := fun _ => hc
      atMostOne := hc.le
      incoming := hi ▸ Nat.zero_le 1
      filled := hz.trans (hf.symm.trans h.filled)
      loads := h.loads
      reads := h.reads
      loading := fun k => by obtain he | he := he <;> simp [he] at k
      idle := fun k => by obtain he | he := he <;> simp [he] at k }

/-- R51, R58: a load starts in a run: the bank that is not CURRENT is FILLING. -/
theorem BanksAgree.start {e : EngineState} {a b : BankState} {r r' : ReadOutstanding} (h : BanksAgree e a b false r)
    (he : e = .running ∨ e = .held) (ha : a ≠ .pending) (hb : b ≠ .pending) :
    (a = .current → BanksAgree e a .filling true r') ∧ (a ≠ .current → BanksAgree e .filling b true r') := by
  have hload : ∀ a' b', currents a' b' = 1 → incomings a' b' = 1 → fillings a' b' = 1 → BanksAgree e a' b' true r' :=
    fun a' b' hc hi hf =>
      { one := fun _ => hc
        atMostOne := hc.le
        incoming := hi.le
        filled := hf
        loads := fun _ => .inr he
        reads := fun _ => rfl
        loading := fun k => by obtain he | he := he <;> simp [he] at k
        idle := fun k => by obtain he | he := he <;> simp [he] at k }
  obtain ⟨rfl, rfl⟩ | ⟨rfl, rfl⟩ := counts_started (h.one (.inr (.inr he))) h.filled ha hb
  · exact ⟨fun _ => hload _ _ (by decide) (by decide) (by decide), fun k => absurd rfl k⟩
  · exact ⟨nofun, fun _ => hload _ _ (by decide) (by decide) (by decide)⟩

/-- R71: the initial load starts in bank 0. -/
theorem banksAgree_initial {r : ReadOutstanding} : BanksAgree .loading .filling .free true r where
  one k := by obtain k | k | k | k := k <;> exact absurd k nofun
  atMostOne := by decide
  incoming := by decide
  filled := by decide
  loads _ := .inl rfl
  reads _ := rfl
  loading _ := ⟨rfl, nofun⟩
  idle := nofun

end Sys2Proof.Proofs.Banks
end

section
/-! PROOFS. The Plan Loader and the banks (R58 to R65, R71, R163): every end of a transfer leaves the banks in agreement with the
engine state and the Loader, and the initial plan CURRENT while LOAD's status write goes on. -/

namespace Sys2Proof.Proofs.LoadedBanks

open Sys2Proof Sys2Proof.Machine Sys2Proof.Proofs.FrameEnds Sys2Proof.Proofs.Moves Sys2Proof.Proofs.ServiceWork
open Sys2Proof.Proofs.KeptBounds Sys2Proof.Proofs.PortContents Sys2Proof.Proofs.LoadSteps Sys2Proof.Proofs.LoadOutcomes
open Sys2Proof.Proofs.Banks

/-! ## What is kept -/

/-- R71, R163: while LOAD's status write goes on, bank 0 is CURRENT. -/
def Marked (s : State) : Prop :=
  s.control.engine = .loading → s.service.activity = .statusWrite → s.store.bank0.state = .current

/-- The banks agree with the engine state and the Loader, and with LOAD's status write. -/
structure BanksHold (s : State) : Prop where
  sound : Sound s
  marked : Marked s

theorem marked_of_not_loading {s : State} (h : s.control.engine ≠ .loading) : Marked s := fun e => absurd e h

theorem sound_of_eq {s t : State} (h : Sound s) (he : t.control.engine = s.control.engine)
    (h0 : t.store.bank0.state = s.store.bank0.state) (h1 : t.store.bank1.state = s.store.bank1.state)
    (hf : t.loader.filling = s.loader.filling) (hr : t.loader.readOut = s.loader.readOut) : Sound t := by
  rw [Sound, he, h0, h1, hf, hr]
  exact h

theorem BanksHold.of_eq {s t : State} (h : BanksHold s) (he : t.control.engine = s.control.engine)
    (hs : t.store = s.store) (hf : t.loader.filling = s.loader.filling) (hr : t.loader.readOut = s.loader.readOut)
    (ha : t.service.activity = .statusWrite → s.service.activity = .statusWrite) : BanksHold t where
  sound := sound_of_eq h.sound he (by rw [hs]) (by rw [hs]) hf hr
  marked := by rw [Marked, he, hs]; exact fun e a => h.marked e (ha a)

/-- The Service Unit goes on, and in LOADING nothing of a pass is in progress. -/
theorem BanksHold.works {s t : State} (h : BanksHold s) (hn : s.control.engine = .loading → NoPass s)
    (hw : WorksOn s t) : BanksHold t where
  sound := sound_of_eq h.sound (by rw [hw.control]) (by rw [hw.store]) (by rw [hw.store]) (by rw [hw.loader])
    (by rw [hw.loader])
  marked := by
    rw [Marked, hw.control, hw.store]
    intro e a
    obtain hs | hs := hn e
    · simp [hw.idle hs] at a
    · exact h.marked e hs

/-! ## Plans that are rejected, or whose read fails -/

/-- R61, R65, R164: a load ends without a plan, and with it LOAD. -/
structure LoadEnds (s t : State) : Prop where
  store : t.store = s.store.dropFilling
  filling : t.loader.filling = false
  readOut : t.loader.readOut = s.loader.readOut
  engine : t.control.engine = if s.control.engine = .loading then .idle else s.control.engine

theorem planRejected_ends (d : PlanDetail) (s : State) : LoadEnds s (planRejected d s) := by
  by_cases he : s.control.engine = .loading
  · constructor <;> simp [planRejected, State.initialLoad, he, loadFails, Loader.outcome, Loader.endLoad]
  · constructor <;> simp [planRejected, State.initialLoad, he, Control.raise, Loader.outcome, Loader.endLoad]

theorem planBusFailed_ends (d : PlanDetail) (s : State) : LoadEnds s (planBusFailed d s) := by
  by_cases he : s.control.engine = .loading
  · constructor <;> simp [planBusFailed, State.initialLoad, he, loadFails, Loader.outcome, Loader.endLoad]
  · constructor <;> simp [planBusFailed, State.initialLoad, he, Control.raise, Loader.outcome, Loader.endLoad]

theorem LoadEnds.not_loading {s t : State} (h : LoadEnds s t) : t.control.engine ≠ .loading := by
  rw [h.engine]
  split
  · exact nofun
  · next he => exact he

/-- In LOADING and in a run the banks stand the end of a load. -/
theorem LoadEnds.hold {s t : State} (h : LoadEnds s t) (hs : Sound s) (hf : s.loader.filling = true)
    (hr : s.loader.readOut ≠ .currentLoad) : BanksHold t where
  marked := marked_of_not_loading h.not_loading
  sound := by
    obtain ⟨h0, h1⟩ := dropFilling_states s.store
    rw [Sound, h.store, h0, h1, h.filling, h.readOut, h.engine]
    rw [Sound, hf] at hs
    split
    · next he =>
      rw [he] at hs
      obtain ⟨ha, hb⟩ := hs.filling_of_loading
      rw [ha, hb]
      exact banksAgree_free (by simp [HasPlan]) hr
    · next he =>
      refine hs.drop id he (fun hi => ?_) hr
      obtain k | k | k := hs.loads rfl <;> simp [hi] at k

/-! ## Reads -/

theorem nextPlanRead_hold {s : State} (h : BanksHold s) (hf : s.loader.filling = true) : BanksHold (nextPlanRead s) := by
  unfold nextPlanRead
  split
  · exact ⟨h.sound.withRead fun _ => hf, h.marked⟩
  · exact h

theorem firstRead_hold {s : State} (h : BanksHold s) (hf : s.loader.filling = true) (hr : s.loader.readOut ≠ .currentLoad) :
    BanksHold (firstRead s) := by
  unfold firstRead
  split
  · exact (planRejected_ends _ s).hold h.sound hf hr
  · exact nextPlanRead_hold h hf

/-- R71, R163: the initial plan passes. -/
theorem planCurrent_hold {s : State} (h : Sound s) (he : s.control.engine = .loading) (hf : s.loader.filling = true)
    (hr : s.loader.readOut ≠ .currentLoad) : BanksHold (planCurrent s) := by
  obtain ⟨h0, h1⟩ := makeCurrent_states s.store
  rw [Sound, he, hf] at h
  have hsound : BanksAgree .loading s.store.makeCurrent.bank0.state s.store.makeCurrent.bank1.state false s.loader.readOut := by
    rw [h0, h1]
    exact h.makeCurrent hr
  refine ⟨?_, fun _ _ => ?_⟩
  · rw [← he] at hsound
    exact hsound
  · show s.store.makeCurrent.bank0.state = .current
    rw [h0, h.filling_of_loading.1]
    rfl

theorem planPending_hold {s : State} (h : Sound s) (he : s.control.engine ≠ .loading) (hf : s.loader.filling = true)
    (hr : s.loader.readOut ≠ .currentLoad) : BanksHold (planPending s) := by
  have hi : s.control.engine ≠ .idle := fun hi => by obtain k | k | k := h.loads hf <;> simp [hi] at k
  obtain ⟨h0, h1⟩ := makePending_states s.store
  have hsound : BanksAgree s.control.engine s.store.makePending.bank0.state s.store.makePending.bank1.state false
      s.loader.readOut := by
    rw [h0, h1]
    exact h.pend he hi hr
  exact ⟨hsound, marked_of_not_loading he⟩

theorem judgePlan_hold {s : State} (h : Sound s) (hf : s.loader.filling = true) (hr : s.loader.readOut ≠ .currentLoad) :
    BanksHold (judgePlan s) := by
  unfold judgePlan
  split
  · exact (planRejected_ends _ s).hold h hf hr
  · split
    · next hi => exact planCurrent_hold h (by simpa [State.initialLoad] using hi) hf hr
    · next hi => exact planPending_hold h (by simpa [State.initialLoad] using hi) hf hr

theorem judgeHeader_hold {s : State} (h : BanksHold s) (hf : s.loader.filling = true)
    (hr : s.loader.readOut ≠ .currentLoad) : BanksHold (judgeHeader s) := by
  unfold judgeHeader
  dsimp only
  split
  · exact (planRejected_ends _ s).hold h.sound hf hr
  · exact nextPlanRead_hold (h.of_eq rfl rfl rfl rfl id) hf

theorem afterPlanBytes_hold {s : State} (h : BanksHold s) (hf : s.loader.filling = true)
    (hr : s.loader.readOut ≠ .currentLoad) : BanksHold (afterPlanBytes s) := by
  unfold afterPlanBytes
  split
  · exact judgeHeader_hold h hf hr
  · split
    · exact judgePlan_hold h.sound hf hr
    · exact nextPlanRead_hold h hf

theorem takePlanBytes_hold {s : State} (h : BanksHold s) (bs : List Byte) : BanksHold (takePlanBytes bs s) := by
  obtain ⟨h0, h1⟩ := take_states s.store bs
  refine ⟨(h.sound.withRead nofun : BanksAgree _ _ _ _ .none).of_states h0 h1, fun e a => ?_⟩
  exact h0.trans (h.marked e a)

theorem staleReadEnds_hold {s : State} (h : BanksHold s) : BanksHold (staleReadEnds s) := by
  have hread : BanksHold { s with loader := { s.loader with readOut := .none } } := ⟨h.sound.withRead nofun, h.marked⟩
  unfold staleReadEnds
  dsimp only
  split
  · next hf => exact nextPlanRead_hold hread hf
  · exact hread

theorem planReadReturns_hold {s : State} (h : BanksHold s) (bs : List Byte) : BanksHold (planReadReturns bs s) := by
  unfold planReadReturns
  split
  · exact h
  · exact staleReadEnds_hold h
  · next hr => exact afterPlanBytes_hold (takePlanBytes_hold h bs) (h.sound.reads hr) nofun

theorem planReadFails_hold {s : State} (h : BanksHold s) (d : PlanDetail) : BanksHold (planReadFails d s) := by
  unfold planReadFails
  split
  · exact h
  · exact staleReadEnds_hold h
  · next hr =>
    exact (planBusFailed_ends d { s with loader := { s.loader with readOut := .none } }).hold
      (h.sound.withRead nofun) (h.sound.reads hr) nofun

end Sys2Proof.Proofs.LoadedBanks
end

section
/-! PROOFS. The banks stay sound (R50 to R52, R56, R71): the loads that start, the ends of transfers, and every move. -/

namespace Sys2Proof.Proofs.SoundBanks

open Sys2Proof Sys2Proof.Machine Sys2Proof.Proofs.EngineControl Sys2Proof.Proofs.PortGrants Sys2Proof.Proofs.FrameEnds
open Sys2Proof.Proofs.Runs Sys2Proof.Proofs.RunStarts Sys2Proof.Proofs.Moves Sys2Proof.Proofs.Bounds
open Sys2Proof.Proofs.EveryStepKeeps Sys2Proof.Proofs.ServiceWork Sys2Proof.Proofs.KeptBounds
open Sys2Proof.Proofs.PortContents Sys2Proof.Proofs.LoadSteps Sys2Proof.Proofs.LoadOutcomes
open Sys2Proof.Proofs.EngineAgreement Sys2Proof.Proofs.EngineConsistency Sys2Proof.Proofs.Banks Sys2Proof.Proofs.LoadedBanks

/-! ## Loads that start -/

theorem giveUp_ne_currentLoad (r : ReadOutstanding) : r.giveUp ≠ .currentLoad := by cases r <;> exact nofun

theorem startFilling_states (s : Store) (g : Word) :
    (s.bank0.state = .current → (s.startFilling g).bank0.state = s.bank0.state ∧ (s.startFilling g).bank1.state = .filling)
      ∧ (s.bank0.state ≠ .current →
        (s.startFilling g).bank0.state = .filling ∧ (s.startFilling g).bank1.state = s.bank1.state) := by
  unfold Store.startFilling
  exact ⟨fun h => by simp [h], fun h => by simp [h]⟩

theorem showFilling_readOut (l : Loader) (g : Word) : (l.showFilling g).readOut = l.readOut := by
  unfold Loader.showFilling
  split <;> rfl

/-- R58: a load starts in a run. -/
theorem startLoad_hold {s : State} (h : BanksHold s) (he : s.control.engine = .running ∨ s.control.engine = .held)
    (hf : s.loader.filling = false) (hp : s.store.pendingGeneration = none) (a : Addr) (g : Word) :
    BanksHold (startLoad a g s) := by
  have hl : s.control.engine ≠ .loading := by obtain k | k := he <;> simp [k]
  obtain ⟨hp0, hp1⟩ : s.store.bank0.state ≠ .pending ∧ s.store.bank1.state ≠ .pending := by
    rw [← not_or, ← pendingGeneration_isSome_iff, hp]
    exact nofun
  have hread : s.loader.readOut ≠ .currentLoad := fun hr => by simp [h.sound.reads hr] at hf
  have hs := h.sound
  rw [Sound, hf] at hs
  obtain ⟨hcur, hother⟩ := hs.start (r' := s.loader.readOut) he hp0 hp1
  obtain ⟨hs0, hs1⟩ := startFilling_states s.store g
  have hagree : BanksAgree s.control.engine (s.store.startFilling g).bank0.state (s.store.startFilling g).bank1.state true
      s.loader.readOut := by
    by_cases hc : s.store.bank0.state = .current
    · exact (hcur hc).of_states (hs0 hc).1 (hs0 hc).2
    · exact (hother hc).of_states (hs1 hc).1 (hs1 hc).2
  have hro : ((s.loader.showFilling g).beginLoad g a).readOut = s.loader.readOut := showFilling_readOut s.loader g
  refine firstRead_hold ⟨?_, marked_of_not_loading hl⟩ rfl (by rw [hro]; exact hread)
  rw [← hro] at hagree
  exact hagree

/-- R63: a load is overtaken. -/
theorem overtake_hold {s : State} (h : BanksHold s) (he : s.control.engine = .running ∨ s.control.engine = .held)
    (hf : s.loader.filling = true) (a : Addr) (g : Word) : BanksHold (overtake a g s) := by
  have hl : s.control.engine ≠ .loading := by obtain k | k := he <;> simp [k]
  obtain ⟨h0, h1⟩ := onFilling_states s.store (f := fun b => { b with generation := g, content := [] }) (g := id)
    (fun _ hb => hb) fun _ _ => rfl
  have hs := h.sound
  rw [Sound, hf] at hs
  exact firstRead_hold
    ⟨(hs.withRead fun _ => rfl : BanksAgree _ _ _ true s.loader.readOut.giveUp).of_states h0 h1, marked_of_not_loading hl⟩
    rfl (giveUp_ne_currentLoad _)

theorem handOverPlan_hold {s : State} (h : BanksHold s) (a : Addr) (g : Word) : BanksHold (handOverPlan a g s) := by
  unfold handOverPlan
  split
  · next hrun =>
    split
    · next hf =>
      split
      · exact overtake_hold h hrun.1 hf a g
      · exact h
    · next hf =>
      split
      · next hp => exact startLoad_hold h hrun.1 (by simpa using hf) (by simpa using hp) a g
      · exact h
  · exact h

theorem handOvers_hold {s : State} (h : BanksHold s) : BanksHold (handOvers s) :=
  handOverPlan_hold (s := { s with
      writer := s.writer.handOver s.service.hostControl
      service := { s.service with
        releaseBad := s.service.releaseBad || !s.writer.accepts s.service.hostControl.release } })
    (h.of_eq rfl rfl rfl rfl id) _ _

theorem stepA_hold {s : State} (h : BanksHold s) (hn : s.control.engine = .loading → NoPass s) :
    BanksHold (stepAEnds (handOvers s)) := by
  refine (handOvers_hold h).works (fun he => ?_) (stepAEnds_works _)
  rw [NoPass, handOvers_service]
  exact hn ((handOvers_engine s).symm.trans he)

/-! ## LOAD's own reads -/

/-- LOADING as one of LOAD's own reads finds it. -/
structure BeforePlan (s : State) : Prop where
  engine : s.control.engine = .loading
  bank0 : s.store.bank0.state = .free
  bank1 : s.store.bank1.state = .free
  filling : s.loader.filling = false
  readOut : s.loader.readOut ≠ .currentLoad
  activity : s.service.activity = .none

theorem beforePlan_of_sound {s : State} (h : Sound s) (he : s.control.engine = .loading)
    (h0 : s.store.bank0.state = .free) (ha : s.service.activity = .none) : BeforePlan s := by
  have h1 := (h.loading he).1
  have hf : s.loader.filling = false := by
    have hfilled := h.filled
    rw [h0, h1] at hfilled
    by_contra hf
    rw [if_pos (by simpa using hf)] at hfilled
    exact absurd hfilled nofun
  exact ⟨he, h0, h1, hf, fun hr => by simp [h.reads hr] at hf, ha⟩

/-- R164: LOAD fails before a plan is loaded. -/
theorem BeforePlan.loadFails_hold {s t : State} (h : BeforePlan s) (ht : t.store = s.store) (hl : t.loader = s.loader)
    (r : CmdReason) (d : PlanDetail) : BanksHold (loadFails r d t) where
  marked := marked_of_not_loading nofun
  sound := by
    rw [Sound, loadFails_store, loadFails_loader, ht, hl, h.bank0, h.bank1, h.filling]
    exact banksAgree_free (by simp [HasPlan, loadFails]) h.readOut

/-- R160: LOAD goes on to its next read. -/
theorem BeforePlan.goesOn_hold {s t : State} (h : BeforePlan s) (hs : BanksHold s) (he : t.control.engine = s.control.engine)
    (ht : t.store = s.store) (hl : t.loader = s.loader) (ha : t.service = s.service) : BanksHold t :=
  hs.of_eq he ht (by rw [hl]) (by rw [hl]) fun hn => by simp [ha, h.activity] at hn

/-- R71: the initial load starts in bank 0. -/
theorem BeforePlan.startInitialLoad_hold {s : State} (h : BeforePlan s) (a : Addr) (g : Word) :
    BanksHold (startInitialLoad a g s) := by
  have hc : s.store.bank0.state ≠ .current := by simp [h.bank0]
  obtain ⟨h0, h1⟩ := (startFilling_states s.store g).2 hc
  have hagree : BanksAgree s.control.engine (s.store.startFilling g).bank0.state (s.store.startFilling g).bank1.state true
      s.loader.readOut := by
    rw [h.engine]
    exact banksAgree_initial.of_states h0 (h1.trans h.bank1)
  refine firstRead_hold ⟨hagree, fun _ hn => ?_⟩ rfl h.readOut
  have : s.service.activity = .statusWrite := hn
  simp [h.activity] at this

theorem setupReturns_hold {s : State} (h : BeforePlan s) (hs : BanksHold s) (bs : List Byte) :
    BanksHold (setupReturns bs s) := by
  unfold setupReturns
  dsimp only
  split
  · exact h.loadFails_hold (t := takeSetup (readSetup bs) s) rfl rfl _ _
  · exact h.goesOn_hold hs rfl rfl rfl rfl

theorem loadHostControlReturns_hold {s : State} (h : BeforePlan s) (bs : List Byte) :
    BanksHold (loadHostControlReturns bs s) := by
  unfold loadHostControlReturns
  dsimp only
  split
  · exact h.loadFails_hold (t := takeLoadHostControl (readHostControl bs) s) rfl rfl _ _
  · let t := takeLoadHostControl (readHostControl bs) s
    have ht : BeforePlan { t with control := { t.control with stage := .plan } } :=
      ⟨h.engine, h.bank0, h.bank1, h.filling, h.readOut, h.activity⟩
    exact ht.startInitialLoad_hold _ _

/-! ## The ends of transfers -/

/-- R163: LOAD succeeds with its plan CURRENT. -/
theorem loadSucceeds_hold {s : State} (h : BanksHold s) (he : s.control.engine = .loading)
    (ha : s.service.activity = .statusWrite) : BanksHold (loadSucceeds s) := by
  have h0 := h.marked he ha
  have h1 := (h.sound.loading he).1
  have hf : s.loader.filling = false := by
    by_contra hf
    have hs := h.sound
    rw [Sound, he, show s.loader.filling = true by simpa using hf] at hs
    simp [hs.filling_of_loading.1] at h0
  have hr : s.loader.readOut ≠ .currentLoad := fun hr => by simp [h.sound.reads hr] at hf
  refine ⟨?_, marked_of_not_loading nofun⟩
  rw [Sound, loadSucceeds_store, loadSucceeds_loader, h0, h1, hf]
  exact
    { one := fun _ => by decide
      atMostOne := by decide
      incoming := by decide
      filled := by decide
      loads := nofun
      reads := fun k => absurd k hr
      loading := nofun
      idle := nofun }

theorem statusEnds_hold {s : State} (h : BanksHold s) (hn : s.control.engine = .loading → NoPass s) :
    BanksHold (statusEnds s) := by
  obtain ⟨ha, e⟩ | ⟨ha, e⟩ | ⟨ha, he, e⟩ | ⟨ha, he, e⟩ | ⟨-, e⟩ := statusEnds_cases s <;> rw [e]
  · have hp : BanksHold (passEvaluations s) := h.of_eq (by simp [passEvaluations]) rfl rfl rfl id
    have hl : s.control.engine ≠ .loading := fun he => by obtain k | k := hn he <;> simp [ha] at k
    refine hp.works (fun he => absurd ?_ hl) (serviceFree_works (by simp [ha]))
    simpa [passEvaluations] using he
  · exact h.works hn (serviceFree_works (by simp [ha]))
  · exact loadSucceeds_hold h he ha
  · exact h.works hn (serviceFree_works (by simp [ha]))
  · exact h

theorem failureHanded_hold {s : State} (h : BanksHold s) (hn : s.control.engine = .loading → NoPass s) (d : PlanDetail)
    {k : TransferKind} (hk : k.isLoadRead = true → BeforePlan s) : BanksHold (failureHanded d k s) := by
  cases k with
  | setupRead => exact (hk rfl).loadFails_hold rfl rfl _ _
  | hostControlRead => exact (hk rfl).loadFails_hold rfl rfl _ _
  | stepARead => exact stepA_hold h hn
  | planRead => exact planReadFails_hold h d
  | boardRead => exact h.works hn (unitEnds_works s)
  | resultWrite => exact h.works hn (unitEnds_works s)
  | stateWrite => exact h.works hn (unitEnds_works s)
  | statusFirst => exact statusEnds_hold h hn
  | statusSecond => exact statusEnds_hold h hn
  | journalWrite => exact h.of_eq rfl rfl rfl rfl id

/-- Every end of a transfer leaves the banks in agreement. -/
theorem answers_hold {x : Transfer} {f : State → State} (h : Answers x f) {u : State} (hu : BanksHold u)
    (hn : u.control.engine = .loading → NoPass u) (hx : x.kind.isLoadRead = true → BeforePlan u) : BanksHold (f u) := by
  cases h with
  | setupRead data hk => exact setupReturns_hold (hx (by rw [hk]; rfl)) hu data
  | hostControl data hk => exact loadHostControlReturns_hold (hx (by rw [hk]; rfl)) data
  | stepA data _ =>
    exact stepA_hold (s := { u with service := { u.service with hostControl := readHostControl data } })
      (hu.of_eq rfl rfl rfl rfl id) hn
  | planRead data _ => exact planReadReturns_hold hu data
  | boardRead i data _ =>
    obtain ⟨backlog, junk, e⟩ | ⟨q, k, o, n, -, e⟩ := handleEntry_cases i data u <;> rw [e]
    · exact BanksHold.works (s := { u with service := { u.service with backlog := backlog, junk := junk } })
        (hu.of_eq rfl rfl rfl rfl id) hn (unitEnds_works _)
    · exact hu.of_eq rfl rfl rfl rfl id
  | resultWrite i r w _ => exact hu.of_eq rfl rfl rfl rfl id
  | stateWrite i w _ =>
    have hc : (removeAnswered i w (noteFinal w u)).control.engine = u.control.engine := by simp [noteFinal]
    exact BanksHold.works (s := removeAnswered i w (noteFinal w u)) (hu.of_eq hc rfl rfl rfl id)
      (fun he => hn (hc.symm.trans he)) (unitEnds_works _)
  | statusFirst _ => exact hu.of_eq rfl rfl rfl rfl id
  | statusSecond _ =>
    have hpost : BanksHold (postStatus u) := by
      refine hu.of_eq rfl rfl ?_ ?_ id
      · unfold postStatus; dsimp only; split <;> rfl
      · unfold postStatus; dsimp only; split <;> rfl
    exact statusEnds_hold hpost hn
  | journalWrite _ => exact hu.of_eq rfl rfl rfl rfl id
  | failure d =>
    exact failureHanded_hold (s := countFailure u) (hu.of_eq rfl rfl rfl rfl id) hn d fun hk =>
      let b := hx hk
      ⟨b.engine, b.bank0, b.bank1, b.filling, b.readOut, b.activity⟩

/-! ## Reads of LOAD at the port -/

/-- While one of LOAD's own reads is at the port, bank 0 is FREE. -/
def ReadsFree (s : State) : Prop := PortHolds (fun _ k => k.isLoadRead = true → s.store.bank0.state = .free) s.port

theorem readsFree_of_noLoadRead {s : State} (h : NoLoadRead s.port) : ReadsFree s :=
  h.imp fun _ _ hk ht => by simp [hk] at ht

theorem readsFree_of_free {s : State} (h : s.store.bank0.state = .free) : ReadsFree s := ⟨fun _ _ _ _ => h, fun _ _ _ => h⟩

theorem banksSound_iff (s : State) : s.BanksSound ↔ BanksHold s ∧ ReadsFree s := by
  constructor
  · intro h
    refine ⟨⟨⟨h.one, h.atMostOne, h.incoming, h.filling, h.loads, h.reads, h.loading, h.idle⟩, h.statusWrite⟩, ?_⟩
    cases hr : s.port.loadReadAtPort with
    | false => exact readsFree_of_noLoadRead ((loadReadAtPort_eq_false_iff _).mp hr)
    | true => exact readsFree_of_free (h.loadReads hr)
  · rintro ⟨h, hf⟩
    refine ⟨h.sound.one, h.sound.atMostOne, h.sound.incoming, h.sound.filled, h.sound.loads, h.sound.reads, h.sound.loading,
      fun hr => ?_, h.marked, h.sound.idle⟩
    by_contra h0
    have hn : NoLoadRead s.port := hf.imp fun _ k hk => by
      by_contra ht
      exact h0 (hk (by simpa using ht))
    simp [(loadReadAtPort_eq_false_iff _).mpr hn] at hr

end Sys2Proof.Proofs.SoundBanks
end

section
/-! PROOFS. Every move keeps the banks sound (R50 to R52, R56, R71), and the statement: every step does. -/

namespace Sys2Proof.Proofs.BanksKept

open Sys2Proof Sys2Proof.Machine Sys2Proof.Proofs.EngineControl Sys2Proof.Proofs.PortGrants Sys2Proof.Proofs.FrameEnds
open Sys2Proof.Proofs.Runs Sys2Proof.Proofs.RunStarts Sys2Proof.Proofs.Moves Sys2Proof.Proofs.Bounds
open Sys2Proof.Proofs.EveryStepKeeps Sys2Proof.Proofs.ServiceWork Sys2Proof.Proofs.KeptBounds
open Sys2Proof.Proofs.PortContents Sys2Proof.Proofs.LoadSteps Sys2Proof.Proofs.LoadOutcomes
open Sys2Proof.Proofs.EngineAgreement Sys2Proof.Proofs.EngineConsistency Sys2Proof.Proofs.Banks Sys2Proof.Proofs.LoadedBanks
open Sys2Proof.Proofs.SoundBanks

/-! ## What is kept, under the operations of the port -/

/-- The banks hold, and are as LOAD's own reads need them. -/
structure BanksInv (s : State) : Prop where
  hold : BanksHold s
  reads : ReadsFree s

theorem BanksInv.of_eq {s t : State} (h : BanksInv s) (he : t.control.engine = s.control.engine) (hs : t.store = s.store)
    (hl : t.loader = s.loader) (ha : t.service.activity = s.service.activity) (hp : t.port = s.port) : BanksInv t where
  hold := h.hold.of_eq he hs (by rw [hl]) (by rw [hl]) (by rw [ha]; exact id)
  reads := by rw [ReadsFree, hs, hp]; exact h.reads

/-- Outside LOADING no read of LOAD is at the port, and the rest says nothing. -/
theorem banksInv_of_not_loading {t : State} (hs : Sound t) (ha : Agrees t) (he : t.control.engine ≠ .loading) :
    BanksInv t := ⟨⟨hs, marked_of_not_loading he⟩, readsFree_of_noLoadRead (ha.port.loadReads he)⟩

theorem banksInv_pollWriter {s : State} (h : BanksInv s) : BanksInv (pollWriter s) :=
  ⟨h.hold.of_eq rfl rfl rfl rfl id, portHolds_pollWriter h.reads nofun⟩

theorem banksInv_grantFree {s : State} (h : BanksInv s) : BanksInv (grantFree s) where
  hold := h.hold.of_eq (by simp) (by simp) (by simp) (by simp) (by rw [(grantFree_sameWork s).1]; exact id)
  reads := by rw [ReadsFree, grantFree_store]; exact portHolds_grantFree h.reads

theorem banksInv_grantAtEnd {s : State} (h : BanksInv s) (b : Port) : BanksInv (grantAtEnd b s) where
  hold := h.hold.of_eq (by simp) (by simp) (by simp) (by simp) (by rw [(grantAtEnd_sameWork b s).1]; exact id)
  reads := by rw [ReadsFree, grantAtEnd_store]; exact portHolds_grantAtEnd h.reads b

theorem banksInv_settlePort {s : State} (h : BanksInv s) : BanksInv (settlePort s) :=
  banksInv_grantFree (banksInv_pollWriter h)

theorem banksInv_freePort {s : State} (h : BanksInv s) : BanksInv (freePort s) :=
  ⟨h.hold.of_eq rfl rfl rfl rfl id, portHolds_freePort h.reads⟩

theorem sound_settlePort {s : State} (h : Sound s) : Sound (settlePort s) :=
  sound_of_eq h (by simp) (by simp) (by simp) (by simp) (by simp)

/-! ## Commands -/

theorem banksInv_reset (s : State) : BanksInv (resetPart s) :=
  ⟨⟨banksAgree_free (e := .idle) (by simp [HasPlan]) (read := .none) nofun, fun _ => nofun⟩, readsFree_of_free rfl⟩

theorem banksInv_takeLoad (s : State) : BanksInv (takeLoad s) :=
  banksInv_grantFree
    ⟨⟨banksAgree_free (e := .loading) (by simp [HasPlan]) (read := .none) nofun, fun _ => nofun⟩, readsFree_of_free rfl⟩

theorem sound_takeClear (s : State) : Sound (takeClear s) :=
  banksAgree_free (e := .idle) (by simp [HasPlan]) (read := .none) nofun

/-- R51: the banks once a load is given up. -/
theorem sound_dropFilling {s : State} (h : Sound s) (e : EngineState) (hp : HasPlan e → HasPlan s.control.engine)
    (hl : e ≠ .loading) (hi : e ≠ .idle) {r : ReadOutstanding} (hr : r ≠ .currentLoad) :
    BanksAgree e s.store.dropFilling.bank0.state s.store.dropFilling.bank1.state false r := by
  obtain ⟨h0, h1⟩ := dropFilling_states s.store
  exact (BanksAgree.drop h hp hl hi hr).of_states h0 h1

/-- R51, R66, R72: HALT leaves no bank FILLING, and bank 0 FREE when it ends a LOAD. -/
theorem sound_haltEngine {s : State} (h : Sound s) : Sound (haltEngine s) := by
  by_cases he : s.control.engine = .loading
  · have hb : s.store.halted true = { s.store.dropFilling with bank0 := .free } := rfl
    have hb1 : s.store.dropFilling.bank1.state = .free := by
      rw [(dropFilling_states s.store).2, (h.loading he).1]
      rfl
    have hfree : BanksAgree .halted .free (s.store.halted true).bank1.state false .none := by
      rw [hb, hb1]
      exact banksAgree_free (by simp [HasPlan]) nofun
    rw [Sound, haltEngine, he]
    exact hfree
  · have hn : (s.control.engine == .loading) = false := by simp [he]
    rw [Sound, haltEngine, hn]
    exact sound_dropFilling h .halted (by simp [HasPlan]) nofun nofun (r := .none) nofun

theorem sound_stopInSyncWait {s : State} (h : Sound s) (he : s.control.engine = .syncWait) : Sound (stopInSyncWait s) := by
  have hf : s.loader.filling = false := by
    by_contra hf
    obtain k | k | k := h.loads (by simpa using hf) <;> simp [he] at k
  have hr : s.loader.readOut ≠ .currentLoad := fun hr => by simp [h.reads hr] at hf
  have hdrop := sound_dropFilling h .armed (fun _ => .inr (.inl he)) nofun nofun hr
  rw [← hf] at hdrop
  exact sound_settlePort hdrop

/-! ## Frame starts and frame ends -/

/-- R52, R67: a frame start switches the banks or leaves them. -/
theorem sound_frameStart {s : State} (h : Sound s) (he : s.control.engine = .running ∨ s.control.engine = .held)
    (change : Option RecordBody) (returning : Bool) : Sound (frameStart change returning s) := by
  have hstates : BanksAgree s.control.engine s.store.atFrameStart.bank0.state s.store.atFrameStart.bank1.state
      s.loader.filling s.loader.readOut := by
    cases hsw : s.store.switches with
    | false => rw [atFrameStart_of_not_switches hsw]; exact h
    | true =>
      rw [atFrameStart_of_switches hsw]
      obtain ⟨h0, h1⟩ := switch_states s.store
      exact (BanksAgree.switch h he ((switches_iff _).mp hsw).2).of_states h0 h1
  have hloader : (frameStart change returning s).loader.filling = s.loader.filling
      ∧ (frameStart change returning s).loader.readOut = s.loader.readOut := by
    rw [frameStart_loader]
    split <;> exact ⟨rfl, rfl⟩
  rw [Sound, frameStart_control, raiseIf_engine, frameStart_store, hloader.1, hloader.2]
  exact hstates

theorem sound_frameEnd {s : State} (h : Sound s) (he : s.control.engine = .running ∨ s.control.engine = .held)
    (missing : Bool) : Sound (frameEnd missing s) := by
  have hplan : HasPlan s.control.engine := .inr (.inr he)
  have hengine : (endedFrame missing s).control.engine = (s.endingSettlement missing).engine := by simp
  obtain ⟨hr, b, e⟩ | ⟨hr, e⟩ | ⟨hr, e⟩ := frameEnd_cases he missing <;> rw [e]
  · have hrun : (endedFrame missing s).control.engine = .running ∨ (endedFrame missing s).control.engine = .held := by
      rw [hengine]; exact hr
    have hended : Sound (endedFrame missing s) :=
      BanksAgree.withEngine h (fun _ => hplan) (fun hl => by obtain k | k := hrun <;> exact absurd (hl.symm.trans k) nofun)
        (fun hi => by obtain k | k := hrun <;> exact absurd (hi.symm.trans k) nofun) fun _ => hrun
    exact sound_frameStart hended hrun _ _
  · have hdrop := sound_dropFilling h .armed (fun _ => hplan) nofun nofun (giveUp_ne_currentLoad s.loader.readOut)
    rw [← hengine.trans hr] at hdrop
    exact hdrop
  · have hdrop := sound_dropFilling h .halted (fun _ => hplan) nofun nofun (r := .none) nofun
    rw [← hengine.trans hr] at hdrop
    exact hdrop

/-- R14, R170: a frame end leaves a state of four. -/
theorem frameEnd_not_loading {s : State} (he : s.control.engine = .running ∨ s.control.engine = .held) (missing : Bool) :
    (frameEnd missing s).control.engine ≠ .loading := by
  obtain ⟨hr | hr, b, e⟩ | ⟨hr, e⟩ | ⟨hr, e⟩ := frameEnd_cases he missing <;> rw [e] <;> simp [hr]

/-! ## The ends of transfers -/

/-- In LOADING a read of LOAD's own at the port means that nothing of a plan has begun. -/
theorem beforePlan_freePort {s : State} (h : BanksInv s) (ha : Agrees s) {x : Transfer} (hx : s.port.live = some x)
    (hread : x.kind.isLoadRead = true) : BeforePlan (freePort s) := by
  have he : s.control.engine = .loading := by
    by_contra he
    simp [(ha.port.loadReads he).live x hx] at hread
  have hact : s.service.activity = .none := (inLoad_freePort ha he hx).idle_of_loadRead hread
  exact beforePlan_of_sound (s := freePort s) (banksInv_freePort h).hold.sound he (h.reads.live x hx hread) hact

theorem setupReturns_store (bs : List Byte) (s : State) : (setupReturns bs s).store = s.store := by
  unfold setupReturns
  dsimp only
  split <;> rfl

/-- R160, R164: the end of the setup read leaves the banks. -/
theorem answers_store_of_setupRead {x : Transfer} {f : State → State} (hf : Answers x f) (hx : x.kind = .setupRead)
    (u : State) : (f u).store = u.store := by
  cases hf
  case setupRead data _ => exact setupReturns_store data u
  case failure d => rw [hx]; rfl
  all_goals simp_all

/-- What a transfer asks for at its end is a read of LOAD only after the setup read, which leaves the banks. -/
theorem readsFree_answers {s : State} (h : BanksInv s) (ha : Agrees s) {x : Transfer} (hx : s.port.live = some x)
    {f : State → State} (hf : Answers x f) (hv : Agrees (f (freePort s))) : ReadsFree (f (freePort s)) := by
  by_cases hve : (f (freePort s)).control.engine = .loading
  · by_cases hk : x.kind = .setupRead
    · have hb := beforePlan_freePort h ha hx (by rw [hk]; rfl)
      exact readsFree_of_free (by rw [answers_store_of_setupRead hf hk]; exact hb.bank0)
    · have hs : s.control.engine = .loading := by
        by_contra hl
        have hc := answers_sameEngine hf (u := freePort s) hl ((ha.port.loadReads hl).live x hx)
        exact hl (hc.engine.symm.trans hve)
      have hsilent : NoLoadRead (freePort s).port := portHolds_of_silent (silent_freePort_of_loading ha.port hs hx)
      refine readsFree_of_noLoadRead (portHolds_of_asked (answers_asked hf _) hsilent (fun k hp => ?_) fun _ => rfl)
      obtain hp | ⟨-, hp⟩ := hp
      · exact hp.2
      · exact absurd hp hk
  · exact readsFree_of_noLoadRead (hv.port.loadReads hve)

theorem banksInv_answers {s : State} (h : BanksInv s) (ha : Agrees s) {x : Transfer} (hx : s.port.live = some x)
    {f : State → State} (hf : Answers x f) : BanksInv (f (freePort s)) where
  hold := answers_hold hf (banksInv_freePort h).hold (fun he => (inLoad_freePort ha he hx).noPass)
    fun hk => beforePlan_freePort h ha hx hk
  reads := readsFree_answers h ha hx hf (agrees_answers ha hx hf)

/-! ## Every move, every step -/

theorem sampleLines_store (ls : List Line) (s : State) : (sampleLines ls s).store = s.store := by
  induction ls generalizing s with
  | nil => rfl
  | cons l ls ih => exact (ih (sampleLine l s)).trans (sampleLine_store l s)

theorem banksInv_sampleLines {s : State} (h : BanksInv s) (ls : List Line) : BanksInv (sampleLines ls s) :=
  h.of_eq (by rw [sampleLines_control]) (sampleLines_store ls s) (sampleLines_loader ls s)
    (by rw [sampleLines_service]) (sampleLines_port ls s)

theorem banksInv_minislot {s : State} (h : BanksInv s) (m : Nat) : BanksInv (minislotStarts m s) := by
  obtain ⟨v, q, e | ⟨p, body, -, e⟩⟩ := minislotStarts_cases m s <;> rw [e]
  · exact h.of_eq rfl rfl rfl rfl rfl
  · exact banksInv_settlePort (h.of_eq rfl rfl rfl rfl rfl)

theorem not_loading_of_run {s : State} (he : s.control.engine = .running ∨ s.control.engine = .held) :
    s.control.engine ≠ .loading := by
  obtain k | k := he <;> simp [k]

theorem serviceWindow_store (s : State) : (serviceWindow s).store = s.store := by
  unfold serviceWindow
  dsimp only
  split <;> simp

theorem serviceWindow_loader (s : State) : (serviceWindow s).loader = s.loader := by
  unfold serviceWindow
  dsimp only
  split <;> simp

/-- R50 to R52, R56, R71: every move keeps the banks. -/
theorem move_banks {s t : State} (hm : Move s t) (ha : Agrees s) (h : BanksInv s) : BanksInv t := by
  have ht : Agrees t := move_agrees hm ha
  cases hm with
  | stays => exact h
  | reset => exact banksInv_reset s
  | refused => exact h.of_eq rfl rfl rfl rfl rfl
  | load => exact banksInv_takeLoad s
  | startInternal he =>
    have hsound : Sound (startShared .running s) :=
      BanksAgree.withEngine h.hold.sound (fun _ => .inl he) nofun nofun fun _ => .inl rfl
    exact banksInv_of_not_loading (sound_settlePort (sound_frameStart hsound (.inl rfl) _ _)) ht (by simp [startInternal])
  | startExternal he =>
    have hf : s.loader.filling = true → False := fun hf => by
      obtain k | k | k := h.hold.sound.loads hf <;> simp [he] at k
    have hsound : Sound (startExternal s) :=
      BanksAgree.withEngine h.hold.sound (fun _ => .inl he) nofun nofun fun k => (hf k).elim
    exact banksInv_of_not_loading hsound ht nofun
  | stopPends => exact h.of_eq rfl rfl rfl rfl rfl
  | stopInSyncWait he => exact banksInv_of_not_loading (sound_stopInSyncWait h.hold.sound he) ht (by simp [stopInSyncWait])
  | resume => exact h.of_eq rfl rfl rfl rfl rfl
  | halt => exact banksInv_of_not_loading (sound_haltEngine h.hold.sound) ht nofun
  | haltAgain he =>
    exact banksInv_of_not_loading (sound_of_eq h.hold.sound rfl rfl rfl rfl rfl) ht (by simp [haltAgain, he])
  | clear => exact banksInv_of_not_loading (sound_takeClear s) ht nofun
  | xbase high w => exact h.of_eq (sameEngine_writeXbase _ high w).engine rfl rfl rfl rfl
  | cause => exact h.of_eq rfl rfl rfl rfl rfl
  | mask => exact h.of_eq rfl rfl rfl rfl rfl
  | sample => exact h.of_eq rfl rfl rfl rfl rfl
  | firstEdge level he =>
    have hf : s.loader.filling = true → False := fun hf => by
      obtain k | k | k := h.hold.sound.loads hf <;> simp [he] at k
    have hsound : Sound { sampleSync level s with
        control := { (sampleSync level s).control with engine := .running } } :=
      BanksAgree.withEngine h.hold.sound (fun _ => .inr (.inl he)) nofun nofun fun k => (hf k).elim
    exact banksInv_of_not_loading (sound_settlePort (sound_frameStart hsound (.inl rfl) _ _)) ht (by simp [firstEdge])
  | earlyEdge => exact h.of_eq rfl rfl rfl rfl rfl
  | frameEnd missing u hu hf =>
    have he := ha.parts.frames.mp hf
    have hu : Sound u ∧ (u.control.engine = .running ∨ u.control.engine = .held) := by
      obtain rfl | ⟨level, rfl⟩ := hu
      · exact ⟨h.hold.sound, he⟩
      · exact ⟨sound_of_eq h.hold.sound rfl rfl rfl rfl rfl, he⟩
    exact banksInv_of_not_loading (sound_settlePort (sound_frameEnd hu.1 hu.2 missing)) ht
      (by simpa using frameEnd_not_loading hu.2 missing)
  | lineEdge levels =>
    exact banksInv_settlePort (banksInv_sampleLines (s := { s with outside := { s.outside with lines := levels } })
      (h.of_eq rfl rfl rfl rfl rfl) _)
  | instant => exact h.of_eq rfl rfl rfl rfl rfl
  | lines => exact h.of_eq rfl rfl rfl rfl rfl
  | closeWindow => exact h.of_eq rfl rfl rfl rfl rfl
  | dynamic => exact h.of_eq rfl rfl rfl rfl rfl
  | minislot m => exact banksInv_minislot h m
  | spotEnd => exact h.of_eq (by simp) (by simp) (by simp) (by simp) (by simp)
  | service hf =>
    refine banksInv_of_not_loading (sound_of_eq h.hold.sound (by rw [serviceWindow_control]) ?_ ?_ ?_ ?_) ht ?_
    · rw [serviceWindow_store]
    · rw [serviceWindow_store]
    · rw [serviceWindow_loader]
    · rw [serviceWindow_loader]
    · rw [serviceWindow_control]; exact not_loading_of_run (ha.parts.frames.mp hf)
  | closing hc =>
    have hl : s.control.engine ≠ .loading := fun he => by
      obtain k | k := (ha.parts.loading he).2 <;> simp [hc] at k
    exact banksInv_of_not_loading (sound_of_eq h.hold.sound (by simp [beginClosing]) (by simp [beginClosing])
      (by simp [beginClosing]) (by simp [beginClosing]) (by simp [beginClosing])) ht (by simpa [beginClosing] using hl)
  | ends x f ho hd hf =>
    exact banksInv_grantAtEnd (banksInv_pollWriter (banksInv_answers h ha (live_eq_some.mpr ⟨ho, hd⟩) hf)) _
  | discarded => exact banksInv_grantAtEnd (banksInv_pollWriter (banksInv_freePort h)) _

/-- Settles O5: with the engine state and the blocks in agreement, every move and a tick keep the banks sound. -/
theorem everyStepKeepsBanksSound : Obligations.EveryStepKeepsBanksSound := by
  intro s t hs hb h
  have hinv := (banksSound_iff s).mp hb
  have hkeeps := step_keeps (P := fun s t => Agrees s → BanksInv s → BanksInv t) ?_ ?_ ?_ ?_ h ((agrees_iff s).mp hs)
    ⟨hinv.1, hinv.2⟩
  · exact (banksSound_iff t).mpr ⟨hkeeps.hold, hkeeps.reads⟩
  · exact fun s l t h ha hb => h (agrees_withPending ha l) (hb.of_eq rfl rfl rfl rfl rfl)
  · exact fun s l _ hb => hb.of_eq rfl rfl rfl rfl rfl
  · exact fun s _ hb => ⟨⟨sound_of_eq hb.hold.sound rfl rfl rfl rfl rfl, hb.hold.marked⟩, hb.reads⟩
  · exact fun s t hm ha hb => move_banks hm ha hb

end Sys2Proof.Proofs.BanksKept
end

section
/-! PROOFS. The ring (R116, R125): a state that agrees in everything the premises ask for, with a read of a plan out for a load
that is not in progress, from which LOAD's status write begins with W unequal to Rl. -/

namespace Sys2Proof.Proofs.JournalRing

open Sys2Proof Sys2Proof.Machine

/-- A plan of one action that passes every check. -/
def onePlan : List Byte :=
  [1, 2, 1, 0, 7, 0, 0, 0, 0, 0, 0, 0, 0xB8, 11, 0, 0, 3, 0, 16, 0, 8, 0, 2, 0, 176, 0, 0, 0, 0, 0, 0, 0]
    ++ [1, 0, 1, 0, 0, 0, 0, 0] ++ List.replicate 120 0
    ++ [0, 0, 1, 0, 0, 1, 0, 0, 3, 0, 0, 0, 0, 0, 0, 0]

theorem onePlan_passes : planFailure onePlan 0xFFFFFFFF 0 = none := by decide +kernel

/-- The Loader's read of the plan, the last one of the plan, with no byte left. -/
def lastPlanRead : Transfer :=
  { kind := .planRead, address := 0, length := 0, data := [], requester := .service, issueTick := 0, expiryTick := 1,
    discard := false }

/-- LOADING with the last read of a plan out, the Loader's load not in progress, W at 1 and Rl at 0. -/
def strayRead : State :=
  { State.reset with
    control := { State.reset.control with engine := .loading, pending := .load }
    store := { State.reset.store with bank0 := { state := .filling, generation := 7, content := onePlan } }
    loader := { State.reset.loader with readOut := .currentLoad, position := 1, total := some 0 }
    writer := { State.reset.writer with written := 1 }
    port := { State.reset.port with outstanding := some lastPlanRead }
    pending := [.planReadDone (Vector.replicate 64 0)] }

theorem strayRead_consistent : strayRead.Consistent := by
  constructor <;> decide

theorem strayRead_journalSound : strayRead.JournalSound where
  room := by decide
  busy := by decide
  waiting q w hw := by cases q <;> exact absurd hw nofun
  live t ht := by
    obtain rfl : lastPlanRead = t := Option.some.inj ht
    decide
  single t ht hq := by
    obtain rfl : lastPlanRead = t := Option.some.inj ht
    exact absurd hq (by decide)
  initial _ := by decide

theorem step_strayRead_statusWrite : ∃ t, step strayRead = .next t ∧ t.control.engine = .loading
    ∧ t.service.activity = .statusWrite ∧ t.writer.written ≠ t.writer.released := by
  refine ⟨_, rfl, ?_, ?_, ?_⟩ <;> decide +kernel

/-- Refutes O6: with a plan's last read out for a load that is not in progress, and W unequal to Rl, the plan passes and
LOAD's status write begins. -/
theorem not_everyStepKeepsJournalWithinRing : ¬ Obligations.EveryStepKeepsJournalWithinRing := by
  rintro ⟨hring, -⟩
  obtain ⟨t, hstep, he, ha, hw⟩ := step_strayRead_statusWrite
  exact hw ((hring _ t strayRead_consistent strayRead_journalSound hstep).initial he (.inr ha))

end Sys2Proof.Proofs.JournalRing
end

section
/-! PROOFS. RESET_N, LOAD, HALT and CLEAR at every block (R56, R72, R109, R125, R138, R148, R160, R168, R169, R174). -/

namespace Sys2Proof.Proofs.WholeBlocks

open Sys2Proof Sys2Proof.Machine Sys2Proof.Proofs.PortGrants Sys2Proof.Proofs.Moves Sys2Proof.Proofs.EveryStepKeeps

/-! ## RESET_N -/

/-- Settles O1: a step takes the front command from the queue. -/
theorem stepRunsTheFrontCommand : Obligations.StepRunsTheFrontCommand := fun _ _ => rfl

/-- Settles O8: the reset state, item by item. -/
theorem resetRestoresTheResetState : Obligations.ResetRestoresTheResetState := by
  refine ⟨fun _ => rfl, ?_⟩
  have hcell : ∀ l, State.reset.cells.get l = Cell.reset := fun l => by simp [State.reset, Vector.get]
  have hpin : ∀ l, State.reset.pin l = .released ∧ State.reset.cells.get l =
      { settings := { direction := .none, rest := false, safe := false, invert := false }, logical := false,
        running := none, window := none, prevSample := none } := fun l => by
    rw [State.pin, hcell]
    exact ⟨rfl, rfl⟩
  exact
    ⟨rfl, rfl, rfl, rfl, rfl, rfl, rfl, rfl, rfl, rfl, rfl, rfl, rfl, rfl, rfl, rfl, rfl, rfl, rfl, rfl, rfl, rfl,
    rfl, rfl, rfl, rfl, rfl, rfl, rfl, rfl, rfl, hpin, rfl, rfl, rfl, rfl, rfl, rfl, rfl, rfl, rfl, rfl, rfl, rfl,
    rfl, rfl, rfl, rfl, rfl, rfl, rfl, rfl, rfl, rfl, rfl, rfl, rfl⟩

theorem reset_waiting (q : Requester) : State.reset.port.waiting q = none := by cases q <;> rfl

theorem reset_live : State.reset.port.live = none := rfl

theorem reset_enabled : State.reset.writer.enabled = false := rfl

/-- Settles O7: the reset state meets every invariant. -/
theorem invariantsHoldAtReset : Obligations.InvariantsHoldAtReset := by
  refine ⟨?bounded, ?consistent, ?banks, ?journal, ?writer, List.Pairwise.nil, (fun _ h => nomatch h),
    fun _ => reset_waiting⟩
  case bounded => constructor <;> decide
  case consistent => constructor <;> decide
  case banks => constructor <;> decide
  case journal =>
    exact
      { room := by decide
        busy := by decide
        waiting := fun q w h => by simp [reset_waiting] at h
        live := fun t h => by simp [reset_live] at h
        single := fun t h => by simp [reset_live] at h
        initial := by decide }
  case writer =>
    exact
      { asks := fun h => by simp [State.WriterReady, reset_enabled] at h
        waiting := fun w h => by simp [show State.reset.port.writer = none from reset_waiting .writer] at h
        live := fun t h => by simp [reset_live] at h
        late := by decide }

/-! ## LOAD -/

/-- A grant that issues a transfer of a kind that sets nothing leaves the Service Unit. -/
theorem grantFree_service {s : State} (h : ∀ q w, s.port.waiting q = some w → ∀ p, s.service.issued p w.kind = s.service) :
    (grantFree s).service = s.service := by
  obtain ⟨_, e⟩ | ⟨_, _, e⟩ | ⟨q, w, _, hq, _, e⟩ := grantFree_cases s
  · rw [e]
  · rw [e]
  · rw [e, grantTo_of_waiting hq]
    exact h q w hq _

/-- LOAD as it leaves the part before the port grants. -/
def loadTaken (s : State) : State :=
  requestService .setupRead 0 64
    { s with
      control :=
        { s.control.readbackIs codeLoad .accepted .none .none with
          engine := .loading, pending := .load, stage := .setupRead, loading := none }
      timer := s.timer.loaded
      cells := mapCells s.cells fun _ c => c.clear
      store := s.store.freed
      static := s.static.deactivate
      loader := s.loader.loadTaken
      queue := .reset
      staging := .reset
      writer := s.writer.loadTaken
      service := s.service.halted
      port := s.port.loadTaken
      health := .reset }

theorem takeLoad_eq (s : State) : takeLoad s = grantFree (loadTaken s) := rfl

theorem loadTaken_waiting (s : State) {q : Requester} {w : Waiting} (h : (loadTaken s).port.waiting q = some w) :
    w.kind = .setupRead := by
  cases q with
  | service => obtain rfl := Option.some.inj h; rfl
  | writer => exact absurd h nofun
  | loader => exact absurd h nofun

theorem takeLoad_service (s : State) : (takeLoad s).service = s.service.halted :=
  grantFree_service (s := loadTaken s) fun q w hq p => by rw [loadTaken_waiting s hq]; rfl

theorem exec_load {s : State} (he : s.control.engine = .idle) (hp : s.control.pending = .none) :
    exec .load s = .next (takeLoad s) := by
  have ha : (s.control.engine == .idle) = true := by simp [he]
  refine congrArg Host.Outcome.next ?_
  rw [loadWritten, ha, EngineControl.judgeCommand_of_accepted hp]

/-- Settles O10: LOAD, block by block. -/
theorem loadTakenSetsBlocksAndReadsSetup : Obligations.LoadTakenSetsBlocksAndReadsSetup := by
  intro s he hp
  have hcontrol : (takeLoad s).control = (loadTaken s).control := grantFree_control _
  have htimer : (takeLoad s).timer = s.timer.loaded := grantFree_timer _
  have hcells : (takeLoad s).cells = mapCells s.cells fun _ c => c.clear := grantFree_cells _
  have hstore : (takeLoad s).store = s.store.freed := grantFree_store _
  have hloader : (takeLoad s).loader = s.loader.loadTaken := grantFree_loader _
  have hhealth : (takeLoad s).health = .reset := grantFree_health _
  have hservice := takeLoad_service s
  have hcell : ∀ l, (takeLoad s).cells.get l = (s.cells.get l).clear := fun l => by rw [hcells, mapCells_get]
  refine ⟨_, exec_load he hp, hcontrol, congrArg Timer.frameTime htimer, congrArg Timer.nextFrame htimer,
    congrArg Timer.current htimer, congrArg Timer.phase htimer, congrArg Timer.acceptance htimer,
    congrArg Timer.earlySeen htimer, congrArg Timer.lastLength htimer, congrArg Timer.syncOut htimer,
    (congrArg Timer.syncSample htimer :), congrArg Timer.geometry htimer, fun l => ⟨hcell l, ?pin⟩,
    congrArg Store.bank0 hstore, congrArg Store.bank1 hstore, grantFree_static _, congrArg Loader.filling hloader,
    congrArg Loader.readOut hloader, congrArg Loader.lastRefused hloader, congrArg Loader.posted hloader,
    grantFree_queue _, grantFree_staging _, grantFree_writer _, congrArg Service.activity hservice,
    congrArg Service.postList hservice, congrArg Service.boardPos hservice, congrArg Service.unit hservice,
    (congrArg Service.hostControl hservice :), (congrArg Service.serial hservice :), congrArg Service.backlog hservice,
    congrArg Service.junk hservice, congrArg Service.releaseBad hservice, congrArg Service.noted hservice,
    congrArg Service.owed hservice, grantFree_timeout _, grantFree_busFaults _,
    grantFree_waiting_none (s := loadTaken s) (r := .writer) rfl,
    grantFree_waiting_none (s := loadTaken s) (r := .loader) rfl,
    fun x hx => grantFree_outstanding (s := loadTaken s) hx, grantFree_asks (s := loadTaken s) (r := .service) rfl,
    congrArg Health.score hhealth, congrArg Health.overruns hhealth, congrArg Health.syncFaults hhealth,
    congrArg Health.faults hhealth, grantFree_now _, grantFree_outside _, grantFree_pending _⟩
  case pin =>
    rw [State.pin, hcell]
    rfl

/-! ## CLEAR -/

theorem exec_clear {s : State} (he : s.control.engine = .armed ∨ s.control.engine = .halted)
    (hp : s.control.pending = .none) : exec .clear s = .next (takeClear s) := by
  have ha : acceptsClear s.control.engine = true := by simpa [acceptsClear] using he
  refine congrArg Host.Outcome.next ?_
  rw [clearWritten, ha, EngineControl.judgeCommand_of_accepted hp]

/-- R146: what becomes of the outstanding transfer when the port is abandoned. -/
theorem abandon_outstanding (p : Port) :
    p.abandon.outstanding = p.outstanding.map fun x => { x with discard := true } := by
  cases h : p.outstanding <;> simp [Port.abandon, Port.discardIf, h]

/-- Settles O16: CLEAR, block by block. -/
theorem clearReturnsEveryBlockToIdle : Obligations.ClearReturnsEveryBlockToIdle := by
  intro s he hp
  have hcell : ∀ l, (takeClear s).cells.get l = (s.cells.get l).clear := fun l => mapCells_get _ _ l
  refine ⟨_, exec_clear he hp, rfl, rfl, rfl, rfl, rfl, rfl, rfl, rfl, rfl, rfl, rfl, rfl, rfl, rfl, rfl, rfl, rfl,
    fun l => ⟨hcell l, ?pin⟩, rfl, rfl, rfl, rfl, rfl, rfl, rfl, rfl, ?port, rfl, rfl, rfl, rfl, rfl, rfl, rfl⟩
  case pin =>
    rw [State.pin, hcell]
    rfl
  case port =>
    rw [← abandon_outstanding]
    rfl

/-! ## HALT -/

theorem exec_halt {s : State} (he : s.control.engine ≠ .halted) : exec .halt s = .next (haltEngine s) :=
  congrArg Host.Outcome.next (if_neg he)

theorem exec_halt_again {s : State} (he : s.control.engine = .halted) : exec .halt s = .next (haltAgain s) :=
  congrArg Host.Outcome.next (if_pos he)

/-- R164, R168: the readback that HALT leaves. -/
theorem halted_readback (c : Control) : c.halted.readback =
    (match c.pending with
    | .none => { last := 5, outcome := .accepted, reason := .none, planReason := .none }
    | .load => { last := 1, outcome := .failed, reason := .halted, planReason := .none }
    | .stop => { last := 3, outcome := .overridden, reason := .none, planReason := .none }
    | .resume => { last := 4, outcome := .overridden, reason := .none, planReason := .none }) := by
  unfold Control.halted
  cases c.pending <;> rfl

/-- R168, R171: HALT raises COMMAND alone, and keeps the setup, XBASE and MASK. -/
theorem halted_registers (c : Control) : c.halted.cause = c.cause ||| 0b010000#6 ∧ c.halted.setup = c.setup
    ∧ c.halted.xbase = c.xbase ∧ c.halted.mask = c.mask := by
  unfold Control.halted
  cases c.pending <;> exact ⟨rfl, rfl, rfl, rfl⟩

/-- R19: in HALTED a DRIVE line is at its safe level and every other is released. -/
theorem haltEngine_pin (s : State) (l : Line) : (haltEngine s).pin l =
    if (s.cells.get l).settings.direction = .drive then .driven (s.cells.get l).settings.safe else .released := by
  have hcell : (haltEngine s).cells.get l = (s.cells.get l).cut := mapCells_get _ _ l
  rw [State.pin, hcell]
  cases hd : (s.cells.get l).settings.direction <;> simp [Cell.pin, Cell.cut, hd, haltEngine, Control.halted]

/-- R51, R56: the banks at HALT. -/
theorem halted_banks (s : Store) (loading : Bool) :
    (s.bank0.state = .filling ∨ loading = true → (s.halted loading).bank0 = .free)
      ∧ (s.bank1.state = .filling → (s.halted loading).bank1 = .free)
      ∧ (s.bank0.state ≠ .filling → loading = false → (s.halted loading).bank0 = s.bank0)
      ∧ (s.bank1.state ≠ .filling → (s.halted loading).bank1 = s.bank1) := by
  refine ⟨fun h => ?_, fun h => ?_, fun h hl => ?_, fun h => ?_⟩
  · cases loading with
    | true => rfl
    | false => simpa [Store.halted, Store.dropFilling, Store.onFilling] using fun hn => absurd (h.resolve_right nofun) hn
  · simp [Store.halted, Store.dropFilling, Store.onFilling, h]
  · simp [Store.halted, Store.dropFilling, Store.onFilling, h, hl]
  · simp [Store.halted, Store.dropFilling, Store.onFilling, h]

theorem discard_sampleLines (ls : List Line) (s : State) : (sampleLines ls s).staging.discard = s.staging.discard := by
  induction ls generalizing s with
  | nil => rfl
  | cons l ls ih =>
    refine (ih (sampleLine l s)).trans (discard_offerAll (fun b hb => ?_) s.staging _ _)
    obtain ⟨p, -, rfl⟩ := Option.map_eq_some_iff.mp (Option.mem_toList.mp hb)
    rfl

/-- The same change of every cell. -/
theorem mapCells_eq_map (v : Vector Cell 16) (f : Cell → Cell) : mapCells v (fun _ c => f c) = v.map f := by
  ext i hi
  simp [mapCells, Vector.get]

/-- Settles O15: HALT, block by block; again in HALTED; and after a line edge of the same tick. -/
theorem haltActsOnEveryBlock : Obligations.HaltActsOnEveryBlock := by
  refine ⟨fun s he => ?taken, fun s he => ?again, fun levels s he => ?edge⟩
  case taken =>
    obtain ⟨hcause, hsetup, hxbase, hmask⟩ := halted_registers s.control
    obtain ⟨h0, h1, k0, k1⟩ := halted_banks s.store (s.control.engine == .loading)
    refine ⟨_, exec_halt he, rfl, rfl, rfl, rfl, halted_readback _, hcause, hsetup, hxbase, hmask, rfl,
      fun l => mapCells_get _ _ l, fun l hd => ?_, fun l hd => ?_, fun h => h0 (by simpa using h), h1,
      fun h hl => k0 h (by simpa using hl), k1, rfl, rfl, rfl, rfl, rfl, rfl, rfl, rfl, rfl, abandon_outstanding _, rfl, rfl,
      rfl, rfl, rfl, rfl, rfl, rfl, rfl⟩
    · rw [haltEngine_pin, if_pos hd]
    · rw [haltEngine_pin, if_neg hd]
  case again =>
    have hcells := mapCells_eq_map s.cells Cell.cut
    rw [exec_halt_again he, haltAgain, hcells]
    rfl
  case edge =>
    have ht : (sampleLines allLines { s with outside := { s.outside with lines := levels } }).control = s.control :=
      sampleLines_control _ _
    refine ⟨_, haltEngine (settlePort _), haltEngine s, rfl, exec_halt (by rw [settlePort_control, ht]; exact he),
      exec_halt he, ?_, ?_⟩
    · exact (congrArg Staging.discard (settlePort_staging _)).trans (discard_sampleLines _ _)
    · show { (settlePort _).writer with enabled := false } = { s.writer with enabled := false }
      rw [settlePort_writer, EngineConsistency.sampleLines_writer]

end Sys2Proof.Proofs.WholeBlocks
end

section
/-! PROOFS. The words of the register port (R172, R173, R177): what a read returns, field by field, and what a write does. -/

namespace Sys2Proof.Proofs.RegisterPort

open Sys2Proof Sys2Proof.Machine Sys2Proof.Proofs.PortGrants Sys2Proof.Proofs.Moves Sys2Proof.Proofs.WholeBlocks

/-! ## Fields of a word -/

/-- The field of a word given by a number. -/
theorem field_ofNat {n v k w : Nat} (hk : k + w ≤ 32) (h : n / 2 ^ k % 2 ^ w = v % 2 ^ w) :
    (BitVec.ofNat 32 n).extractLsb' k w = BitVec.ofNat w v := by
  apply BitVec.eq_of_toNat_eq
  rw [BitVec.extractLsb'_toNat, BitVec.toNat_ofNat, BitVec.toNat_ofNat, Nat.shiftRight_eq_div_pow, ← h]
  have hsplit : 2 ^ 32 = 2 ^ k * 2 ^ (32 - k) := by rw [← pow_add]; congr 1; omega
  rw [hsplit, Nat.mod_mul_right_div_self]
  exact Nat.mod_mod_of_dvd _ (pow_dvd_pow 2 (by omega))

theorem outcome_code_lt (o : CmdOutcome) : o.code < 8 := by cases o <;> decide
theorem reason_code_lt (r : CmdReason) : r.code < 10 := by cases r <;> decide
theorem planReason_code_lt (d : PlanDetail) : d.code < 18 := by cases d <;> decide
theorem engine_code_lt (e : EngineState) : e.code < 7 := by cases e <;> decide

theorem identWord_fields : identWord.extractLsb' 0 8 = 1 ∧ identWord.extractLsb' 8 12 = 416
    ∧ identWord.extractLsb' 20 12 = 0xD5 := by decide

/-- The number that CMD holds. -/
def cmdNumber (l o r d p : Nat) : Nat := l + 256 * o + 65536 * r + 16777216 * d + 2147483648 * p

/-- R177: the fields of that number. -/
theorem cmdNumber_fields {l o r d p : Nat} (hl : l < 256) (ho : o < 8) (hr : r < 10) (hd : d < 18) :
    (BitVec.ofNat 32 (cmdNumber l o r d p)).extractLsb' 0 8 = BitVec.ofNat 8 l
      ∧ (BitVec.ofNat 32 (cmdNumber l o r d p)).extractLsb' 8 4 = BitVec.ofNat 4 o
      ∧ (BitVec.ofNat 32 (cmdNumber l o r d p)).extractLsb' 12 4 = BitVec.ofNat 4 0
      ∧ (BitVec.ofNat 32 (cmdNumber l o r d p)).extractLsb' 16 8 = BitVec.ofNat 8 r
      ∧ (BitVec.ofNat 32 (cmdNumber l o r d p)).extractLsb' 31 1 = BitVec.ofNat 1 p
      ∧ (d < 16 → (BitVec.ofNat 32 (cmdNumber l o r d p)).extractLsb' 24 4 = BitVec.ofNat 4 d
        ∧ (BitVec.ofNat 32 (cmdNumber l o r d p)).extractLsb' 28 3 = BitVec.ofNat 3 0) := by
  unfold cmdNumber
  refine ⟨field_ofNat (by decide) ?_, field_ofNat (by decide) ?_, field_ofNat (by decide) ?_, field_ofNat (by decide) ?_,
    field_ofNat (by decide) ?_, fun hd => ⟨field_ofNat (by decide) ?_, field_ofNat (by decide) ?_⟩⟩ <;> omega

/-- R177: CMD, field by field. -/
theorem cmdWord_fields (c : Control) :
    c.cmdWord.extractLsb' 0 8 = c.readback.last
      ∧ c.cmdWord.extractLsb' 8 4 = BitVec.ofNat 4 c.readback.outcome.code
      ∧ c.cmdWord.extractLsb' 12 4 = 0
      ∧ c.cmdWord.extractLsb' 16 8 = BitVec.ofNat 8 c.readback.reason.code
      ∧ (c.cmdWord.getLsbD 31 = true ↔ c.pending ≠ .none)
      ∧ (c.readback.planReason.code < 16 →
        c.cmdWord.extractLsb' 24 4 = BitVec.ofNat 4 c.readback.planReason.code ∧ c.cmdWord.extractLsb' 28 3 = 0) := by
  have hword : c.cmdWord = BitVec.ofNat 32 (cmdNumber c.readback.last.toNat c.readback.outcome.code c.readback.reason.code
      c.readback.planReason.code (if c.pending = .none then 0 else 1)) := by
    unfold Control.cmdWord cmdNumber
    split <;> rfl
  have hbit : c.cmdWord.getLsbD 31 = (c.cmdWord.extractLsb' 31 1).getLsbD 0 := by simp
  obtain ⟨hlast, houtcome, hzero, hreason, hpending, hplan⟩ :=
    cmdNumber_fields c.readback.last.isLt (outcome_code_lt c.readback.outcome) (reason_code_lt c.readback.reason)
      (planReason_code_lt c.readback.planReason) (p := if c.pending = .none then 0 else 1)
  rw [← hword] at hlast houtcome hzero hreason hpending hplan
  refine ⟨hlast.trans (BitVec.ofNat_toNat _ _), houtcome, hzero, hreason, ?_, hplan⟩
  rw [hbit, hpending]
  by_cases hp : c.pending = .none <;> simp [hp]

/-- R172: STATE, field by field. -/
theorem state_fields (e : EngineState) (score : Nat) :
    (BitVec.ofNat 32 (e.code + 256 * score)).extractLsb' 0 4 = BitVec.ofNat 4 e.code
      ∧ (BitVec.ofNat 32 (e.code + 256 * score)).extractLsb' 4 4 = 0
      ∧ (BitVec.ofNat 32 (e.code + 256 * score)).extractLsb' 8 8 = BitVec.ofNat 8 score
      ∧ (score ≤ 255 → (BitVec.ofNat 32 (e.code + 256 * score)).extractLsb' 16 16 = 0) := by
  have he := engine_code_lt e
  refine ⟨field_ofNat (by decide) ?_, field_ofNat (v := 0) (by decide) ?_, field_ofNat (by decide) ?_,
    fun hs => field_ofNat (v := 0) (by decide) ?_⟩ <;> omega

/-! ## Reads -/

/-- R172: a read of less than a whole word or at an invalid offset returns 0. -/
theorem readRegister_invalid (s : State) {offset size : Nat} (h : size ≠ 4 ∨ 28 < offset ∨ offset % 4 ≠ 0) :
    s.readRegister offset size = 0 := by
  unfold State.readRegister
  split
  · rfl
  · next hs =>
    have ho : 28 < offset ∨ offset % 4 ≠ 0 := h.resolve_left (not_not.mpr (not_not.mp hs))
    split
    case h_9 => rfl
    all_goals omega

/-- R172: the two words of XBASE. -/
theorem xbase_words (x : Addr) : (x >>> 32).setWidth 32 ++ x.setWidth 32 = x := by
  refine BitVec.eq_of_getLsbD_eq fun i hi => ?_
  rw [BitVec.getLsbD_append]
  split
  · next hlow => simp [hlow]
  · next hhigh =>
    have hsub : 32 + (i - 32) = i := by omega
    have hlt : i - 32 < 32 := by omega
    simp [hsub, hlt]

/-! ## Writes -/

/-- R172: which writes are ignored. -/
theorem writeIgnored_iff (offset size : Nat) : writeIgnored offset size = true ↔
    size ≠ 4 ∨ 28 < offset ∨ offset % 4 ≠ 0 ∨ offset = 0 ∨ offset = 16 ∨ offset = 20 := by
  simp only [writeIgnored, validAccess, Bool.or_eq_true, Bool.not_eq_true', Bool.and_eq_false_iff, beq_iff_eq,
    beq_eq_false_iff_ne, decide_eq_false_iff_not, not_le]
  omega

theorem registerWritten_ignored {offset size : Nat} (h : writeIgnored offset size = true) (w : Word) (s : State) :
    registerWritten offset size w s = s := by
  have h := (writeIgnored_iff offset size).mp h
  unfold registerWritten
  split
  · rfl
  · next hs =>
    split
    · omega
    · omega
    · omega
    · omega
    · omega
    · rfl

/-- R172: the low word of XBASE takes a multiple of 64. -/
theorem xbase_low (w : Word) : w &&& 0xFFFFFFC0#32 = w.extractLsb' 6 26 ++ 0#6 := by
  refine BitVec.eq_of_getLsbD_eq fun i hi => ?_
  rw [BitVec.getLsbD_append, BitVec.getLsbD_and]
  split
  · next hlow => simp [EveryStepKeeps.xbaseMask_low hlow]
  · next hhigh =>
    have hmask : (0xFFFFFFC0#32).getLsbD i = true := by
      have hbits : ∀ j : Fin 32, 6 ≤ j.val → (0xFFFFFFC0#32).getLsbD j.val = true := by decide
      exact hbits ⟨i, hi⟩ (by simpa using hhigh)
    have hsub : 6 + (i - 6) = i := by omega
    have hlt : i - 6 < 26 := by omega
    simp [hmask, hsub, hlt]

theorem xbaseWrite_of_idle {s : State} (he : s.control.engine = .idle) (high : Bool) (w : Word) :
    exec (.xbaseWrite high w) s = .next { s with control := { s.control with
      xbase :=
        if high then w ++ s.control.xbase.extractLsb' 0 32
        else s.control.xbase.extractLsb' 32 32 ++ (w.extractLsb' 6 26 ++ 0#6) } } := by
  rw [← xbase_low]
  show Host.Outcome.next { s with control := s.control.writeXbase high w } = _
  rw [Control.writeXbase, if_pos he]

theorem xbaseWrite_of_not_idle {s : State} (he : s.control.engine ≠ .idle) (high : Bool) (w : Word) :
    exec (.xbaseWrite high w) s = .next s := by
  show Host.Outcome.next { s with control := s.control.writeXbase high w } = _
  rw [Control.writeXbase, if_neg he]

theorem loadWritten_xbase (s : State) : (loadWritten s).control.xbase = s.control.xbase := by
  unfold loadWritten judgeCommand
  split
  · rfl
  · split
    · rw [takeLoad, grantFree_control]; rfl
    · rfl

theorem haltWritten_xbase (s : State) : (haltWritten s).control.xbase = s.control.xbase := by
  unfold haltWritten
  split
  · rfl
  · exact (halted_registers s.control).2.2.1

theorem clearWritten_xbase (s : State) : (clearWritten s).control.xbase = s.control.xbase := by
  unfold clearWritten judgeCommand
  split
  · rfl
  · split <;> rfl

/-! ## LOAD's setup read fails -/

/-- R143, R144: an error response, or the timer when it is due, ends the outstanding transfer by its failure. -/
theorem exec_failure {s : State} {x : Transfer} {c : Instr} (ho : s.port.outstanding = some x) (hd : x.discard = false)
    (hc : c = .busError ∨ (c = .timeout ∧ x.expiryTick ≤ s.now)) : exec c s =
      .next (grantAtEnd s.port (pollWriter (failureHanded (if c = .busError then .busError else .timeout) x.kind
        (countFailure (freePort s))))) := by
  have hrespond : ∀ detail, transferFails detail s =
      grantAtEnd s.port (pollWriter (failureHanded detail x.kind (countFailure (freePort s)))) := by
    intro detail
    rw [transferFails, respond_of_live ho hd rfl]
    rfl
  obtain rfl | ⟨rfl, hdue⟩ := hc
  · rw [if_pos rfl, ← hrespond]
    rfl
  · have hdue : timeoutDue s = true := by simpa [timeoutDue, ho] using hdue
    rw [if_neg (by decide), ← hrespond]
    show Host.Outcome.next (whenDue (timeoutDue s) (transferFails .timeout) s) = _
    rw [hdue]
    rfl

/-- Settles O17: the words of the register port. -/
theorem registerPortWords : Obligations.RegisterPortWords := by
  refine ⟨fun s => ?reads, fun s offset size => readRegister_invalid s, fun high w s => ?xbase,
    fun offset size w s hw => congrArg Host.Outcome.next (registerWritten_ignored hw w s), writeIgnored_iff,
    fun s => ?commands, fun s x c ho hk hd hc => ?failure⟩
  case reads =>
    obtain ⟨hlast, houtcome, hzero, hreason, hpending, hplan⟩ := cmdWord_fields s.control
    obtain ⟨hengine, hgap, hscore, hhigh⟩ := state_fields s.control.engine s.health.score
    obtain ⟨hrevision, hpart, hvendor⟩ := identWord_fields
    refine ⟨hrevision, hpart, hvendor, xbase_words _, fun hb => ?low, hlast, houtcome, hreason, hpending, fun hs => ?plan,
      hzero, hgap, hhigh, hengine, fun _ => hscore, fun hs he => ?idle, rfl, rfl, rfl⟩
    case low =>
      have hx : (s.control.xbase.setWidth 32).extractLsb' 0 6 = s.control.xbase.extractLsb' 0 6 := by
        ext i hi
        simp
        omega
      exact hx.trans hb.xbase
    case plan =>
      have hcode : s.control.readback.planReason.code < 16 := by
        by_cases hn : s.control.readback.planReason = .none
        · rw [hn]; decide
        · exact (hs.planReason hn).2
      refine ⟨(hplan hcode).1, fun hr => ?_, (hplan hcode).2⟩
      have hn : s.control.readback.planReason = .none := by
        by_contra hn
        exact hr (hs.planReason hn).1
      exact (hplan hcode).1.trans (by rw [hn]; rfl)
    case idle =>
      have hzero : s.health.score = 0 := hs.score he
      exact hscore.trans (by rw [hzero]; rfl)
  case xbase => exact ⟨fun he => xbaseWrite_of_idle he high w, fun he => xbaseWrite_of_not_idle he high w⟩
  case commands =>
    exact ⟨⟨_, rfl, rfl⟩, ⟨_, rfl, loadWritten_xbase s⟩, ⟨_, rfl, haltWritten_xbase s⟩, ⟨_, rfl, clearWritten_xbase s⟩⟩
  case failure =>
    refine ⟨_, exec_failure ho hd hc, ?_, ?_⟩ <;> rw [grantAtEnd_control, pollWriter_control, hk] <;> rfl

end Sys2Proof.Proofs.RegisterPort
end

section
/-! PROOFS. Line cells (R19 to R29, R53, R54): the pin, windows and captures, bursts, and the events that touch one cell. -/

namespace Sys2Proof.Proofs.LineCells

open Sys2Proof Sys2Proof.Machine Sys2Proof.Proofs.RunStarts

/-! ## Pins -/

/-- Settles O22: the pin, direction by direction and state by state. -/
theorem pinFollowsStateAndDirection : Obligations.PinFollowsStateAndDirection := by
  intro s l
  unfold State.pin Cell.pin
  cases (s.cells.get l).settings.direction with
  | none => simp
  | sense => simp
  | drive => cases s.control.engine <;> simp

/-! ## Windows and captures -/

theorem admits_iff (e : EdgeSelect) (k : Edge) : e.admits k = true ↔
    (k = .rise ∧ (e = .rise ∨ e = .both)) ∨ (k = .fall ∧ (e = .fall ∨ e = .both)) := by
  cases e <;> cases k <;> simp [EdgeSelect.admits]

/-- R27, R28: the window of a SENSE line captures an edge that it admits before its close tick. -/
theorem captures_of_window {c : Cell} {w : Window} (hw : c.window = some w) (hd : c.settings.direction = .sense) (now : Nat)
    (sample : Bool) : c.captures now sample =
      (edgeBetween c.prevSample sample).bind fun e => if now < w.closeTick ∧ w.edge.admits e = true then some (e, w) else none := by
  unfold Cell.captures
  rw [hw]
  cases edgeBetween c.prevSample sample <;> simp [hd]

theorem afterSample_of_captures {c : Cell} {now : Nat} {sample : Bool} {e : Edge} {w : Window}
    (h : c.captures now sample = some (e, w)) : (c.afterSample now sample).window =
      if w.left ≤ 1 then none else some { w with left := w.left - 1, made := w.made + 1 } := by
  have hleft : w.captured.left = 0 ↔ w.left ≤ 1 := by
    show w.left - 1 = 0 ↔ _
    omega
  simp only [Cell.afterSample, h]
  by_cases hl : w.left ≤ 1
  · rw [if_pos (hleft.mpr hl), if_pos hl]
  · rw [if_neg (mt hleft.mp hl), if_neg hl]
    rfl

theorem afterSample_of_no_capture {c : Cell} {now : Nat} {sample : Bool} (h : c.captures now sample = none) :
    (c.afterSample now sample).window = c.window := by
  simp [Cell.afterSample, h]

/-- Settles O24: what a sample makes of a window. -/
theorem windowCapturesMatchingEdges : Obligations.WindowCapturesMatchingEdges := by
  intro c w now sample hw hd edge matching
  have hcaptures := captures_of_window hw hd now sample
  refine ⟨fun hm => ?hit, fun hm => ?miss, afterSample_prevSample .., afterSample_logical .., afterSample_settings ..⟩
  case hit =>
    obtain ⟨hnow, hedge⟩ := hm
    obtain ⟨e, he⟩ : ∃ e, edge = some e := by
      obtain ⟨he, -⟩ | ⟨he, -⟩ := hedge <;> exact ⟨_, he⟩
    have hadmits : w.edge.admits e = true := (admits_iff _ _).mpr (by simpa [he] using hedge)
    have hcap : c.captures now sample = some (e, w) := by
      rw [hcaptures, show edgeBetween c.prevSample sample = some e from he]
      simp [hnow, hadmits]
    exact ⟨by rw [hcap, he]; rfl, afterSample_of_captures hcap⟩
  case miss =>
    have hcap : c.captures now sample = none := by
      rw [hcaptures]
      cases he : edgeBetween c.prevSample sample with
      | none => rfl
      | some e =>
        refine if_neg fun h => hm ⟨h.1, ?_⟩
        have hedge : edge = some e := he
        simpa [hedge] using (admits_iff _ _).mp h.2
    exact ⟨hcap, (afterSample_of_no_capture hcap).trans hw⟩

/-- Settles O37: a WINDOW opens on a SENSE line alone. -/
theorem windowOpensOnSenseLinesAlone : Obligations.WindowOpensOnSenseLinesAlone := by
  intro c w edge most now source
  refine ⟨fun h => ?_, fun h => ?_⟩
  · rw [Cell.take, applyOutput_of_not_drive (by simp [h])]
    simp [Cell.openWindow, h]
  · simp [Cell.take, Cell.openWindow, h]

/-! ## Bursts -/

/-- R25: a BURST as a DRIVE line takes it. -/
theorem take_burst {c : Cell} (h : c.settings.direction = .drive) (p d n now : Nat) (source : WindowSource) :
    c.take now (.burst p d n) source =
      { c.endDue now with
        logical := if 0 < min d p then !c.settings.rest else c.settings.rest
        running := some { start := now, stop := now + p * n, op := .burst p d n } } := by
  simp [Cell.take, Cell.applyOutput, Cell.openWindow, h]

/-- R25: a running burst at a tick before its end at which its level may change. -/
theorem burstChange_of_due {c : Cell} {start stop p d n now : Nat}
    (hr : c.running = some { start := start, stop := stop, op := .burst p d n }) (hnow : now < stop)
    (hc : (now - start) % p = 0 ∨ (now - start) % p = min d p) : c.burstChange now =
      { c with logical := if (now - start) % p < min d p then !c.settings.rest else c.settings.rest } := by
  simp only [Cell.burstChange, hr, burstLevel]
  rw [if_pos ⟨hnow, by simpa [burstChanges] using hc⟩]

/-- R25: at every other tick the level stays. -/
theorem burstChange_of_not_due {c : Cell} {now : Nat}
    (h : ∀ start stop p d n, c.running = some { start := start, stop := stop, op := .burst p d n } →
      stop ≤ now ∨ ((now - start) % p ≠ 0 ∧ (now - start) % p ≠ min d p)) : c.burstChange now = c := by
  unfold Cell.burstChange
  split
  · next start stop p d n hr =>
    refine if_neg fun ⟨hnow, hc⟩ => ?_
    have hc : (now - start) % p = 0 ∨ (now - start) % p = min d p := by simpa [burstChanges] using hc
    obtain hs | ⟨h0, hm⟩ := h start stop p d n hr
    · omega
    · exact hc.elim h0 hm
  · rfl

/-- R25: what a tick can make of a cell by its burst. -/
theorem burstChange_cases (c : Cell) (now : Nat) : c.burstChange now = c
    ∨ ∃ start stop p d n, c.running = some { start := start, stop := stop, op := .burst p d n } ∧ now < stop
      ∧ ((now - start) % p = 0 ∨ (now - start) % p = min d p)
      ∧ c.burstChange now =
        { c with logical := if (now - start) % p < min d p then !c.settings.rest else c.settings.rest } := by
  by_cases h : ∃ start stop p d n, c.running = some { start := start, stop := stop, op := .burst p d n } ∧ now < stop
      ∧ ((now - start) % p = 0 ∨ (now - start) % p = min d p)
  · obtain ⟨start, stop, p, d, n, hr, hnow, hc⟩ := h
    exact .inr ⟨start, stop, p, d, n, hr, hnow, hc, burstChange_of_due hr hnow hc⟩
  · refine .inl (burstChange_of_not_due fun start stop p d n hr => ?_)
    by_contra hn
    rw [not_or, not_le, not_and_or, not_not, not_not] at hn
    exact h ⟨start, stop, p, d, n, hr, hn⟩

/-- Settles O36: a burst at the starts of its periods, at the ends of its duties, and at its end. -/
theorem burstFollowsItsPeriods : Obligations.BurstFollowsItsPeriods := by
  intro c p d n now source hdrive hp hn b
  have hb := take_burst hdrive p d n now source
  have hrunning : b.running = some { start := now, stop := now + p * n, op := .burst p d n } := by
    rw [show b = _ from hb]
  have hrest : b.settings.rest = c.settings.rest := by rw [show b = _ from hb]; simp
  refine ⟨hrunning, ?level, fun i k hi hk hkd => ?change, ?rest, ?ended⟩
  case level =>
    have hmin : 0 < min d p ↔ 0 < d := by omega
    rw [show b = _ from hb]
    simp only [hmin]
  case change =>
    have helapsed : (now + i * p + k - now) % p = k := by
      rw [show now + i * p + k - now = k + i * p by omega, Nat.add_mul_mod_self_right, Nat.mod_eq_of_lt hk]
    have hstop : now + i * p + k < now + p * n := by
      have hle : (i + 1) * p ≤ n * p := Nat.mul_le_mul_right p hi
      have hexp : (i + 1) * p = i * p + p := by ring
      have hcomm : n * p = p * n := Nat.mul_comm n p
      omega
    have hlt : k < min d p ↔ k < d := by omega
    rw [burstChange_of_due hrunning hstop (by rw [helapsed]; omega), helapsed, hrest]
    simp only [hlt]
  case rest => simp [Cell.endDue, hrunning, Cell.endAction, hrest]
  case ended => simp [Cell.endDue, hrunning, Cell.endAction]

/-! ## Events that touch one cell -/

/-- A change of one cell, cell by cell. -/
theorem updateCell_cells (v : Vector Cell 16) (l : Line) {f : Cell → Cell} {c : Cell} (h : f (v.get l) = c) :
    (updateCell v l f).get l = c ∧ ∀ k, k ≠ l → (updateCell v l f).get k = v.get k :=
  ⟨(updateCell_get_self v l f).trans h, fun _ hk => updateCell_get_of_ne hk⟩

/-- R29: what the report of a window that closes makes of the queue. -/
theorem report_of_static {w : Window} (h : ∀ board tag, w.source ≠ .spot board tag) (q : Queue) :
    q.report w.report = q := by
  cases hs : w.source with
  | spot board tag => exact absurd hs (h board tag)
  | static a b => simp [Window.report, hs, Queue.report]

theorem report_of_spot {w : Window} {board : Nat} {tag : Word} (h : w.source = .spot board tag) (q : Queue) :
    q.report w.report = { q with
      entries := q.entries.map fun e =>
        if e.board = board then { e with result := { e.result with captures := w.made } } else e } := by
  simp [Window.report, h, Queue.report, Queue.onBoard]

/-- Settles O38: the end of an action, a burst's change and the end of a window touch one cell. -/
theorem lineEventsTouchOneCell : Obligations.LineEventsTouchOneCell := by
  intro s l c
  refine ⟨fun r hr hstop => ?action, fun start stop p d n hr hnow hc => ?burst, fun w hw hclose => ?window⟩
  case action =>
    have hend : c.endDue s.now = { c with logical := c.settings.rest, running := none } := by
      simp [Cell.endDue, hr, hstop, Cell.endAction]
    exact ⟨_, rfl, rfl, updateCell_cells s.cells l hend⟩
  case burst => exact ⟨_, rfl, rfl, updateCell_cells s.cells l (burstChange_of_due hr hnow hc)⟩
  case window =>
    have hdue : windowDue s l = some w := Option.filter_eq_some_iff.mpr ⟨hw, by simpa using hclose⟩
    have hexec : exec (.windowCloseTick l) s = .next (closeDueWindow l w s) := by
      show Host.Outcome.next ((windowDue s l).elim s fun w => closeDueWindow l w s) = _
      rw [hdue]
      rfl
    obtain ⟨hself, hothers⟩ := updateCell_cells s.cells l (f := Cell.closeWindow) rfl
    exact ⟨_, hexec, rfl, hself, hothers, fun h => report_of_static h s.queue, fun board tag h => report_of_spot h s.queue⟩

/-- Settles O33: an action at its start tick. -/
theorem staticActionIsConsideredAtItsStartTick : Obligations.StaticActionIsConsideredAtItsStartTick := by
  intro s a op ha hop hline ht
  have hstart : actionStarting s = some a :=
    Option.filter_eq_some_iff.mpr ⟨ha, decide_eq_true ht⟩
  have hexec : exec .staticActionStart s = .next (considerAction a s) := by
    show Host.Outcome.next ((actionStarting s).elim s fun a => considerAction a s) = _
    rw [hstart]
    rfl
  have hhanded : handed s a = true ↔
      s.static.frame.toNat % a.period = a.phase ∧ ¬ (s.control.engine = .held ∧ kindIsOutput a.kind = true) := by
    simp only [handed, filterPasses, Bool.and_eq_true, beq_iff_eq, Bool.not_eq_true', Bool.and_eq_false_iff,
      beq_eq_false_iff_ne, not_and_or, Bool.not_eq_true]
  have hval : (lineOf a.line).val = a.line.toNat := Nat.mod_eq_of_lt hline
  refine ⟨_, hexec, rfl, fun l hl => ?_, fun l hl => ?_⟩
  · have hne : l ≠ lineOf a.line := fun h => hl (by rw [h, hval])
    simp only [considerAction]
    split
    · exact updateCell_get_of_ne hne
    · rfl
  · obtain rfl : l = lineOf a.line := Fin.ext (hl.trans hval.symm)
    simp only [considerAction]
    by_cases hh : handed s a = true
    · rw [if_pos hh, if_pos (hhanded.mp hh), updateCell_get_self, hop]
      rfl
    · rw [if_neg hh, if_neg (mt hhanded.mpr hh)]

end Sys2Proof.Proofs.LineCells
end

section
/-! PROOFS. Timed events (log 2, log 4): when each is due, what an event that is not due does, which one an empty queue meets, and
the tick that passes when none is. -/

namespace Sys2Proof.Proofs.TimedEvents

open Sys2Proof Sys2Proof.Machine Sys2Proof.Proofs.FrameScore Sys2Proof.Proofs.LineCells

/-! ## When each event is due -/

theorem outputEndDue_iff (s : State) (l : Line) : outputEndDue s l = true ↔
    ∃ r, (s.cells.get l).running = some r ∧ r.stop ≤ s.now := by
  simp [outputEndDue, Option.any_eq_true]

theorem windowDue_eq_some (s : State) (l : Line) (w : Window) : windowDue s l = some w ↔
    (s.cells.get l).window = some w ∧ w.closeTick ≤ s.now := by
  simp [windowDue, Option.filter_eq_some_iff]

theorem spotDue_eq_some (s : State) (a : SpotAction) : spotDue s = some a ↔ s.queue.action = some a ∧ a.stop ≤ s.now := by
  simp [spotDue, Option.filter_eq_some_iff]

theorem timeoutDue_iff (s : State) : timeoutDue s = true ↔ ∃ x, s.port.outstanding = some x ∧ x.expiryTick ≤ s.now := by
  simp [timeoutDue, Option.any_eq_true]

theorem acceptanceDue_iff (s : State) : acceptanceDue s = true ↔ s.timer.acceptance = .earlyZone
    ∧ ∃ t, s.timer.frameTime = some t ∧ s.timer.geometry.frameLength ≤ t + s.control.setup.tolerance := by
  simp [acceptanceDue, Option.any_eq_true]

theorem pulseEndDue_iff (s : State) : pulseEndDue s = true ↔
    s.timer.syncOut = true ∧ ∃ t, s.timer.frameTime = some t ∧ 8 ≤ t := by
  simp only [pulseEndDue, Bool.and_eq_true, Option.any_eq_true, decide_eq_true_iff]
  rfl

theorem slotStarting_eq_some (s : State) (k : Nat) : slotStarting s = some k ↔
    ∃ t, s.timer.frameTime = some t ∧ t % s.timer.geometry.slotLength = 0
      ∧ t / s.timer.geometry.slotLength < s.timer.geometry.slots ∧ t / s.timer.geometry.slotLength = k := by
  simp only [slotStarting, Option.bind_eq_some_iff]
  refine exists_congr fun t => and_congr_right fun _ => ?_
  split <;> simp_all

theorem minislotStarting_eq_some (s : State) (m : Nat) : minislotStarting s = some m ↔ s.timer.phase.isDynamic = true
    ∧ ∃ t, s.timer.frameTime = some t ∧ s.timer.geometry.staticLength ≤ t
      ∧ (t - s.timer.geometry.staticLength) % s.timer.geometry.minislotLength = 0
      ∧ (t - s.timer.geometry.staticLength) / s.timer.geometry.minislotLength < s.timer.geometry.minislots
      ∧ (t - s.timer.geometry.staticLength) / s.timer.geometry.minislotLength = m := by
  simp only [minislotStarting, Option.bind_eq_some_iff]
  rw [← exists_and_left]
  refine exists_congr fun t => ?_
  split <;> simp_all

theorem actionStarting_eq_some (s : State) (a : ActionRecord) : actionStarting s = some a ↔
    nextAction s = some a ∧ s.timer.frameTime = some (a.slot * s.timer.geometry.slotLength + a.offset) := by
  rw [actionStarting, Option.filter_eq_some_iff, atFrameTime, decide_eq_true_iff]
  rfl

theorem dynamicDue_iff (s : State) : dynamicDue s = true ↔ s.timer.phase.isStatic = true
    ∧ 0 < s.timer.geometry.minislots ∧ s.timer.frameTime = some s.timer.geometry.staticLength := by
  simp [dynamicDue, atFrameTime, and_assoc]

theorem serviceDue_iff (s : State) : serviceDue s = true ↔
    (s.timer.phase.isStatic = true ∨ s.timer.phase.isDynamic = true)
      ∧ s.timer.frameTime = some (s.timer.geometry.staticLength + s.timer.geometry.dynamicLength) := by
  simp [serviceDue, atFrameTime]

theorem closingDue_iff (s : State) : closingDue s = true ↔ s.service.activity = .closingWait
    ∧ (s.staging.records = [] ∨ (s.writer.written - s.writer.released).toNat = s.writer.size.toNat) := by
  simp [closingDue, Writer.journalFull, Writer.unreleased]

theorem slotDue_iff (s : State) : slotDue s = true ↔ ∃ t, s.timer.frameTime = some t
    ∧ t % s.timer.geometry.slotLength = 0 ∧ t / s.timer.geometry.slotLength < s.timer.geometry.slots
    ∧ s.timer.phase ≠ .static (t / s.timer.geometry.slotLength) := by
  simp only [slotDue, Option.any_eq_true, slotStarting_eq_some, decide_eq_true_eq]
  constructor
  · rintro ⟨k, ⟨t, ht, h0, hlt, rfl⟩, hp⟩
    exact ⟨t, ht, h0, hlt, hp⟩
  · rintro ⟨t, ht, h0, hlt, hp⟩
    exact ⟨_, ⟨t, ht, h0, hlt, rfl⟩, hp⟩

theorem minislotDue_iff (s : State) : minislotDue s = true ↔ s.timer.phase.isDynamic = true
    ∧ ∃ t, s.timer.frameTime = some t ∧ s.timer.geometry.staticLength ≤ t
      ∧ (t - s.timer.geometry.staticLength) % s.timer.geometry.minislotLength = 0
      ∧ (t - s.timer.geometry.staticLength) / s.timer.geometry.minislotLength < s.timer.geometry.minislots
      ∧ (s.timer.phase ≠ .dynamic ((t - s.timer.geometry.staticLength) / s.timer.geometry.minislotLength)
        ∨ ∃ e, s.queue.startingAt ((t - s.timer.geometry.staticLength) / s.timer.geometry.minislotLength) = some e) := by
  simp only [minislotDue, Option.any_eq_true, minislotStarting_eq_some, Bool.or_eq_true, decide_eq_true_eq,
    Option.isSome_iff_exists]
  constructor
  · rintro ⟨m, ⟨hd, t, ht, hle, h0, hlt, rfl⟩, hp⟩
    exact ⟨hd, t, ht, hle, h0, hlt, hp⟩
  · rintro ⟨hd, t, ht, hle, h0, hlt, hp⟩
    exact ⟨_, ⟨hd, t, ht, hle, h0, hlt, rfl⟩, hp⟩

/-- R25: a burst is due when its level changes. -/
theorem burstDue_iff (s : State) (l : Line) : burstDue s l = true ↔
    ∃ r p d n, (s.cells.get l).running = some r ∧ r.op = .burst p d n ∧ s.now < r.stop
      ∧ ((s.now - r.start) % p = 0 ∨ (s.now - r.start) % p = min d p)
      ∧ (s.cells.get l).logical ≠ (if (s.now - r.start) % p < min d p then !(s.cells.get l).settings.rest
          else (s.cells.get l).settings.rest) := by
  have hdue : burstDue s l = true ↔ ((s.cells.get l).burstChange s.now).logical ≠ (s.cells.get l).logical := by
    simp [burstDue]
  rw [hdue]
  constructor
  · intro h
    obtain he | ⟨start, stop, p, d, n, hr, hnow, hc, he⟩ := burstChange_cases (s.cells.get l) s.now
    · exact absurd (congrArg Cell.logical he) h
    · exact ⟨_, p, d, n, hr, rfl, hnow, hc, fun hl => h ((congrArg Cell.logical he).trans hl.symm)⟩
  · rintro ⟨⟨start, stop, op⟩, p, d, n, hr, rfl, hnow, hc, hl⟩
    rw [burstChange_of_due hr hnow hc]
    exact hl.symm

/-! ## Events that are not due -/

/-- A timed event at a tick at which it is not due. -/
theorem next_whenDue_of_not {due : Bool} (h : ¬ due = true) (f : State → State) (s : State) :
    (Host.Outcome.next (whenDue due f s) : Host.Outcome State Fault Refusal) = .next s :=
  congrArg Host.Outcome.next (if_neg h)

theorem next_elim_of_none {α : Type} {o : Option α} (h : ∀ a, o ≠ some a) (f : α → State) (s : State) :
    (Host.Outcome.next (o.elim s f) : Host.Outcome State Fault Refusal) = .next s := by
  rw [Option.eq_none_iff_forall_ne_some.mpr h]
  rfl

/-- A change of one cell that leaves it. -/
theorem updateCell_of_same {v : Vector Cell 16} {l : Line} {f : Cell → Cell} (h : f (v.get l) = v.get l) :
    updateCell v l f = v := by
  refine cells_ext fun k => ?_
  rw [updateCell_get]
  split
  · next hk => rw [hk, h]
  · rfl

theorem withCells_of_same {s : State} {l : Line} {f : Cell → Cell} (h : f (s.cells.get l) = s.cells.get l) :
    (Host.Outcome.next { s with cells := updateCell s.cells l f } : Host.Outcome State Fault Refusal) = .next s := by
  rw [updateCell_of_same h]

/-- Settles O31: each event, at a tick at which it is not due. -/
theorem eventsNotDueHaveNoEffect : Obligations.EventsNotDueHaveNoEffect := by
  intro s l g
  refine ⟨fun h => ?_, fun h => ?_, fun h => ?pulse, fun h => ?acceptance, fun h => ?slot, fun h => ?action, fun h => ?dynamic,
    fun h => ?minislot, fun h => ?service, fun h => ?spot, fun h => ?window, fun h => ?output, fun h => ?burst,
    fun h => ?closing, fun h => ?timeout⟩
  · exact next_whenDue_of_not (mt (internalEndDue_iff s).mp h) _ s
  · exact next_whenDue_of_not (mt (missingDue_iff s).mp h) _ s
  case pulse =>
    refine next_whenDue_of_not (fun hd => ?_) _ s
    obtain ⟨hs, t, ht, hle⟩ := (pulseEndDue_iff s).mp hd
    obtain h | h := h
    · simp [hs] at h
    · exact absurd (h t ht) (by omega)
  case acceptance =>
    refine next_whenDue_of_not (fun hd => ?_) _ s
    obtain ⟨hs, t, ht, hle⟩ := (acceptanceDue_iff s).mp hd
    obtain h | h := h
    · exact h hs
    · exact absurd (h t ht) (not_lt.mpr hle)
  case slot =>
    refine next_elim_of_none (fun k hk => ?_) _ s
    obtain ⟨t, ht, h0, hlt, -⟩ := (slotStarting_eq_some s k).mp hk
    refine h _ hlt ?_
    rw [ht, Nat.div_mul_cancel (Nat.dvd_of_mod_eq_zero h0)]
  case action =>
    refine next_elim_of_none (fun a ha => ?_) _ s
    obtain ⟨hn, ht⟩ := (actionStarting_eq_some s a).mp ha
    exact h a hn ht
  case dynamic =>
    refine next_whenDue_of_not (fun hd => ?_) _ s
    obtain ⟨hs, hpos, ht⟩ := (dynamicDue_iff s).mp hd
    obtain h | h | h := h
    · simp [hs] at h
    · exact absurd h hpos.ne'
    · exact h ht
  case minislot =>
    refine next_elim_of_none (fun m hm => ?_) _ s
    obtain ⟨hs, t, ht, hle, h0, hlt, -⟩ := (minislotStarting_eq_some s m).mp hm
    obtain h | h := h
    · simp [hs] at h
    · refine h _ hlt (ht.trans (congrArg some ?_))
      rw [Nat.div_mul_cancel (Nat.dvd_of_mod_eq_zero h0)]
      exact (Nat.add_sub_cancel' hle).symm
  case service =>
    refine next_whenDue_of_not (fun hd => ?_) _ s
    obtain ⟨hp, ht⟩ := (serviceDue_iff s).mp hd
    obtain ⟨h1, h2⟩ | h := h
    · simp [h1, h2] at hp
    · exact h ht
  case spot =>
    refine next_elim_of_none (fun a ha => ?_) _ s
    obtain ⟨hq, hle⟩ := (spotDue_eq_some s a).mp ha
    exact absurd (h a hq) (not_lt.mpr hle)
  case window =>
    refine next_elim_of_none (fun w hw => ?_) _ s
    obtain ⟨hc, hle⟩ := (windowDue_eq_some s l w).mp hw
    exact absurd (h w hc) (not_lt.mpr hle)
  case output =>
    refine withCells_of_same ?_
    obtain ⟨r, hr, hle, -⟩ | ⟨-, he⟩ := endDue_cases (s.cells.get l) s.now
    · exact absurd (h r hr) (not_lt.mpr hle)
    · exact he
  case burst => exact withCells_of_same (burstChange_of_not_due h)
  case closing =>
    refine next_whenDue_of_not (fun hd => ?_) _ s
    obtain ⟨hs, hempty⟩ := (closingDue_iff s).mp hd
    obtain h | ⟨hr, hf⟩ := h
    · exact h hs
    · exact hempty.elim hr hf
  case timeout =>
    refine next_whenDue_of_not (fun hd => ?_) _ s
    obtain ⟨x, hx, hle⟩ := (timeoutDue_iff s).mp hd
    exact absurd (h x hx) (not_lt.mpr hle)

/-- Settles O32: the Frame Timer's instants. -/
theorem frameTimerMarksItsInstants : Obligations.FrameTimerMarksItsInstants := by
  intro s time ht
  refine ⟨fun ha hle => ?_, fun hs hle => ?_, fun k hk hpos hk' => ?_⟩
  · exact congrArg Host.Outcome.next (whenDue_of_due ((acceptanceDue_iff s).mpr ⟨ha, time, ht, hle⟩) _ s)
  · exact congrArg Host.Outcome.next (whenDue_of_due ((pulseEndDue_iff s).mpr ⟨hs, time, ht, hle⟩) _ s)
  · have hdiv : time / s.timer.geometry.slotLength = k := by rw [hk', Nat.mul_div_cancel _ hpos]
    have hstart : slotStarting s = some k :=
      (slotStarting_eq_some s k).mpr ⟨time, ht, by rw [hk', Nat.mul_mod_left], by rw [hdiv]; exact hk, hdiv⟩
    show Host.Outcome.next ((slotStarting s).elim s fun k => enterSlot k s) = _
    rw [hstart]
    rfl

/-! ## The event an empty queue meets -/

open Classical in
/-- The first event of a list whose condition holds. -/
noncomputable def firstDue (l : List (Instr × Prop)) : Option Instr := (l.find? fun e => decide e.2).map Prod.fst

theorem firstDue_eq_none (l : List (Instr × Prop)) : firstDue l = none ↔ ∀ e ∈ l, ¬ e.2 := by
  simp [firstDue]

theorem firstDue_eq_some (l : List (Instr × Prop)) (c : Instr) : firstDue l = some c ↔
    ∃ before e after, l = before ++ e :: after ∧ e.1 = c ∧ e.2 ∧ ∀ d ∈ before, ¬ d.2 := by
  simp only [firstDue, Option.map_eq_some_iff, List.find?_eq_some_iff_append]
  constructor
  · rintro ⟨e, ⟨he, before, after, hl, hb⟩, hc⟩
    exact ⟨before, e, after, hl, hc, by simpa using he, by simpa using hb⟩
  · rintro ⟨before, e, after, hl, hc, he, hb⟩
    exact ⟨e, ⟨by simpa using he, before, after, hl, by simpa using hb⟩, hc⟩

theorem firstDue_append (l m : List (Instr × Prop)) : firstDue (l ++ m) = (firstDue l <|> firstDue m) := by
  rw [firstDue, List.find?_append]
  cases h : l.find? fun e => @decide e.2 (Classical.propDecidable _) <;> simp [firstDue, h]

theorem firstDue_cons (c : Instr) (p : Prop) (l : List (Instr × Prop)) {due : Bool} (h : due = true ↔ p) :
    firstDue ((c, p) :: l) = (eventIf due c <|> firstDue l) := by
  by_cases hp : p
  · simp [firstDue, eventIf, hp, h.mpr hp]
  · have hd : due = false := by simpa using mt h.mp hp
    simp [firstDue, eventIf, hp, hd]

theorem firstDue_lines {due : Line → Bool} {p : Line → Prop} (i : Line → Instr) (h : ∀ l, due l = true ↔ p l) :
    firstDue (allLines.map fun l => (i l, p l)) = lineEvent due i := by
  have hd : (fun l => @decide (p l) (Classical.propDecidable _)) = due := by
    funext l
    exact Bool.eq_iff_iff.mpr ((@decide_eq_true_iff _ (Classical.propDecidable _)).trans (h l).symm)
  rw [firstDue, List.find?_map, Option.map_map, lineEvent, ← hd]
  rfl

/-- R21, R29, R103, R143, R7, R11, R10, R16, R5, R100, R102, R53, R25, R126, R136: the event that is due is the first of the
timed events. -/
theorem dueEvent_eq (s : State) : dueEvent s = firstDue s.timedEvents := by
  have hwindow : ∀ l, (windowDue s l).isSome = true ↔ ∃ w, (s.cells.get l).window = some w ∧ w.closeTick ≤ s.now := fun l => by
    simp only [Option.isSome_iff_exists, windowDue_eq_some]
  have hspot : (spotDue s).isSome = true ↔ ∃ a, s.queue.action = some a ∧ a.stop ≤ s.now := by
    simp only [Option.isSome_iff_exists, spotDue_eq_some]
  have haction : (actionStarting s).isSome = true ↔ ∃ a, nextAction s = some a
      ∧ s.timer.frameTime = some (a.slot * s.timer.geometry.slotLength + a.offset) := by
    simp only [Option.isSome_iff_exists, actionStarting_eq_some]
  have hdynamic := dynamicDue_iff s
  have hminislot := minislotDue_iff s
  have hservice := serviceDue_iff s
  simp only [Geometry.staticLength, Geometry.dynamicLength] at hdynamic hminislot hservice
  unfold State.timedEvents
  simp only [List.append_assoc, List.cons_append, List.nil_append]
  rw [firstDue_append, firstDue_lines _ (outputEndDue_iff s), firstDue_append, firstDue_lines _ hwindow,
    firstDue_cons _ _ _ hspot, firstDue_cons _ _ _ (timeoutDue_iff s), firstDue_cons _ _ _ (internalEndDue_iff s),
    firstDue_cons _ _ _ (missingDue_iff s), firstDue_cons _ _ _ (acceptanceDue_iff s),
    firstDue_cons _ _ _ (pulseEndDue_iff s), firstDue_cons _ _ _ (slotDue_iff s), firstDue_cons _ _ _ hdynamic,
    firstDue_cons _ _ _ hminislot, firstDue_cons _ _ _ haction, firstDue_append,
    firstDue_lines _ (burstDue_iff s), firstDue_cons _ _ _ hservice, firstDue_cons _ _ _ (closingDue_iff s)]
  simp [dueEvent, firstDue]

/-! ## The tick -/

theorem losesSome_offered (st : Staging) : st.losesSome st.offered.length = st.LosesLate st.records.length := by
  rw [FrameEnds.losesSome_eq, Staging.LosesLate]
  simp only [ne_eq, List.length_eq_zero_iff]

theorem step_of_none {s : State} (hp : s.pending = []) (hd : dueEvent s = none) : step s = .next (advanceTick s) := by
  rw [step, hp]
  show Host.Outcome.next (idle s) = _
  rw [idle, hd]

theorem step_of_due {s : State} {c : Instr} (hp : s.pending = []) (hd : dueEvent s = some c) :
    step s = .next { s with pending := [c] } := by
  rw [step, hp]
  show Host.Outcome.next (idle s) = _
  rw [idle, hd, hp]
  rfl

/-- R149: the fault set at the end of a tick. -/
theorem advanceTick_faults (s : State) : (advanceTick s).health.faults =
    if s.timer.frameTime = none then s.health.faults
    else s.health.faults.union { s.health.faultsNow with
      loss := s.health.faultsNow.loss || s.staging.LosesLate s.staging.records.length } := by
  have hfaults : (advanceTick s).health.faults =
      if s.frameRunning then s.health.faults.union { s.health.faultsNow with
        loss := s.health.faultsNow.loss || (s.frameRunning && s.staging.losesSome s.staging.offered.length) }
      else s.health.faults := rfl
  rw [hfaults, losesSome_offered]
  unfold State.frameRunning
  cases s.timer.frameTime <;> simp

/-- Settles O2: an empty queue meets the first event that is due, or a tick passes. -/
theorem emptyQueueMeetsAnEventOrATick : Obligations.EmptyQueueMeetsAnEventOrATick := by
  refine ⟨fun s c => step_of_due, fun s hp hd => ?tick, fun s => ?first⟩
  case tick =>
    have hcell : ∀ l, (advanceTick s).cells.get l = (s.cells.get l).sample s.control.engine (s.outside.line l) := fun l =>
      mapCells_get s.cells (fun l c => c.sample s.control.engine (s.outside.line l)) l
    exact ⟨_, step_of_none hp hd, rfl, rfl, hcell, rfl, rfl, rfl, advanceTick_faults s, rfl, rfl, rfl,
      rfl, rfl, rfl, rfl, rfl, rfl, rfl, rfl, rfl, rfl, hp⟩
  case first =>
    rw [dueEvent_eq]
    exact ⟨firstDue_eq_none _, firstDue_eq_some _⟩

end Sys2Proof.Proofs.TimedEvents
end

section
/-! PROOFS. A line edge (R26, R28, R112, R115): the lines take their samples in line order. -/

namespace Sys2Proof.Proofs.LineSamples

open Sys2Proof Sys2Proof.Machine Sys2Proof.Proofs.WindowReports Sys2Proof.Proofs.PortGrants
open Sys2Proof.Proofs.EveryStepKeeps Sys2Proof.Proofs.KeptBounds Sys2Proof.Proofs.EngineConsistency
open Sys2Proof.Proofs.BanksKept Sys2Proof.Proofs.LineCells

/-! ## One line -/

/-- The level a line shows. -/
def levelAt (s : State) (l : Line) : Bool := (s.pin l).level (s.outside.line l)

/-- The capture that a line's sample makes. -/
def captureAt (s : State) (l : Line) : Option (Edge × Window) := (s.cells.get l).captures s.now (levelAt s l)

/-- The record that a line's sample offers. -/
def recordAt (s : State) (l : Line) : Option RecordBody := (captureAt s l).map fun p => .capture l p.1 p.2.source

/-- The report that a line's sample makes to the Spot Queue. -/
def reportAt (s : State) (l : Line) : Option (Nat × Nat) :=
  (captureAt s l).bind fun p => if p.2.captured.left = 0 then p.2.captured.report else none

theorem sampleLine_cell_self (l : Line) (s : State) :
    (sampleLine l s).cells.get l = (s.cells.get l).afterSample s.now (levelAt s l) := updateCell_get_self ..

theorem sampleLine_cell_of_ne {k l : Line} (h : k ≠ l) (s : State) : (sampleLine l s).cells.get k = s.cells.get k :=
  updateCell_get_of_ne h

theorem sampleLine_staging (l : Line) (s : State) : (sampleLine l s).staging =
    s.staging.offerAll s.journalWriteOutstanding (recordAt s l).toList (stamp s) := rfl

theorem sampleLine_queue (l : Line) (s : State) : (sampleLine l s).queue = s.queue.report (reportAt s l) := rfl

theorem sampleLine_faultsNow (l : Line) (s : State) : (sampleLine l s).health.faultsNow =
    { s.health.faultsNow with
      loss := s.health.faultsNow.loss
        || (s.timer.frameTime.isSome && !s.journalWriteOutstanding && s.staging.losesSome (recordAt s l).toList.length) } := rfl

/-- A line's sample leaves what another line's sample finds. -/
theorem captureAt_sampleLine {k l : Line} (h : k ≠ l) (s : State) : captureAt (sampleLine l s) k = captureAt s k := by
  have hcell := sampleLine_cell_of_ne h s
  have hpin : (sampleLine l s).pin k = s.pin k := by rw [State.pin, hcell]; rfl
  rw [captureAt, levelAt, hcell, hpin]
  rfl

theorem recordAt_sampleLine {k l : Line} (h : k ≠ l) (s : State) : recordAt (sampleLine l s) k = recordAt s k := by
  rw [recordAt, captureAt_sampleLine h]
  rfl

theorem reportAt_sampleLine {k l : Line} (h : k ≠ l) (s : State) : reportAt (sampleLine l s) k = reportAt s k := by
  rw [reportAt, captureAt_sampleLine h]
  rfl

/-! ## Several lines -/

theorem sampleLines_cells {ls : List Line} (hls : ls.Nodup) (s : State) (k : Line) :
    (sampleLines ls s).cells.get k =
      if k ∈ ls then (s.cells.get k).afterSample s.now (levelAt s k) else s.cells.get k := by
  induction ls generalizing s with
  | nil => simp [sampleLines]
  | cons l ls ih =>
    obtain ⟨hl, hls⟩ := List.nodup_cons.mp hls
    refine (ih hls (sampleLine l s)).trans ?_
    by_cases hk : k = l
    · subst hk
      rw [if_neg hl, if_pos List.mem_cons_self, sampleLine_cell_self]
    · have hcell := sampleLine_cell_of_ne hk s
      have hpin : (sampleLine l s).pin k = s.pin k := by rw [State.pin, hcell]; rfl
      have hmem : k ∈ l :: ls ↔ k ∈ ls := by simp [hk]
      rw [hcell, levelAt, hpin]
      simp only [hmem]
      rfl

/-- R115: the records of a line's sample come before those of the lines after it. -/
theorem records_cons {l : Line} {ls : List Line} (hl : l ∉ ls) (s : State) : (l :: ls).filterMap (recordAt s) =
    (recordAt s l).toList ++ ls.filterMap (recordAt (sampleLine l s)) := by
  have hrest : ls.filterMap (recordAt (sampleLine l s)) = ls.filterMap (recordAt s) :=
    List.filterMap_congr fun k hk => recordAt_sampleLine (ne_of_mem_of_not_mem hk hl) s
  rw [hrest]
  cases h : recordAt s l <;> simp [h]

theorem sampleLines_staging {ls : List Line} (hls : ls.Nodup) (s : State) : (sampleLines ls s).staging =
    s.staging.offerAll s.journalWriteOutstanding (ls.filterMap (recordAt s)) (stamp s) := by
  induction ls generalizing s with
  | nil => rfl
  | cons l ls ih =>
    obtain ⟨hl, hls⟩ := List.nodup_cons.mp hls
    have hrecords := records_cons hl s
    calc (sampleLines ls (sampleLine l s)).staging
        = (sampleLine l s).staging.offerAll s.journalWriteOutstanding (ls.filterMap (recordAt (sampleLine l s))) (stamp s) :=
          ih hls (sampleLine l s)
      _ = _ := by rw [sampleLine_staging, hrecords, offerAll_append]

theorem sampleLines_queue {ls : List Line} (hls : ls.Nodup) (s : State) :
    (sampleLines ls s).queue = s.queue.reports (ls.map (reportAt s)) := by
  induction ls generalizing s with
  | nil => rfl
  | cons l ls ih =>
    obtain ⟨hl, hls⟩ := List.nodup_cons.mp hls
    have hrest : ls.map (reportAt (sampleLine l s)) = ls.map (reportAt s) :=
      List.map_congr_left fun k hk => reportAt_sampleLine (ne_of_mem_of_not_mem hk hl) s
    refine (ih hls (sampleLine l s)).trans ?_
    rw [hrest]
    rfl

/-! ## The losses -/

/-- R113: with no write of the head at the port, offers fill staging to its 32 places. -/
theorem offerAll_false_length (st : Staging) (bs : List RecordBody) (p : Word × Nat) :
    (st.offerAll false bs p).records.length = max st.records.length (min 32 (st.records.length + bs.length)) := by
  induction bs generalizing st with
  | nil => simp
  | cons b bs ih =>
    rw [offerAll_cons, ih]
    obtain ⟨hl, e⟩ | ⟨-, h, -⟩ | ⟨hl, -, e⟩ := offer_cases st false b p
    · rw [e]
      simp only [Staging.join, List.length_append, List.length_cons, List.length_nil]
      omega
    · exact absurd h (by decide)
    · rw [e, loseOffer_records, List.length_cons]
      omega

/-- R113: records offered in two parts lose one exactly when they do together. -/
theorem losesSome_append (st : Staging) (as : List RecordBody) (n : Nat) (p : Word × Nat) :
    (st.losesSome as.length || (st.offerAll false as p).losesSome n) = st.losesSome (as.length + n) := by
  have hplaces : Config.stagingPlaces = 32 := rfl
  rw [Bool.eq_iff_iff]
  simp only [Staging.losesSome, offerAll_false_length, hplaces, Bool.or_eq_true, Bool.and_eq_true, bne_iff_ne,
    decide_eq_true_iff]
  omega

theorem sampleLines_faultsNow {ls : List Line} (hls : ls.Nodup) (s : State) : (sampleLines ls s).health.faultsNow =
    { s.health.faultsNow with
      loss := s.health.faultsNow.loss || (s.timer.frameTime.isSome && !s.journalWriteOutstanding
        && s.staging.losesSome (ls.filterMap (recordAt s)).length) } := by
  induction ls generalizing s with
  | nil => simp [sampleLines, Staging.losesSome]
  | cons l ls ih =>
    obtain ⟨hl, hls⟩ := List.nodup_cons.mp hls
    have hrecords := records_cons hl s
    refine (ih hls (sampleLine l s)).trans ?_
    have hout : (sampleLine l s).journalWriteOutstanding = s.journalWriteOutstanding := rfl
    have htime : (sampleLine l s).timer = s.timer := rfl
    rw [hrecords, List.length_append, sampleLine_faultsNow, sampleLine_staging, hout, htime]
    cases s.journalWriteOutstanding with
    | true => simp
    | false =>
      rw [← losesSome_append s.staging (recordAt s l).toList _ (stamp s)]
      simp only [Bool.not_false, Bool.and_true, Bool.and_or_distrib_left, Bool.or_assoc]

/-! ## The statement -/

theorem captureAt_window {s : State} {l : Line} {e : Edge} {w : Window} (h : captureAt s l = some (e, w)) :
    (s.cells.get l).window = some w := by
  unfold captureAt Cell.captures at h
  split at h
  · next hw =>
    split at h
    · obtain ⟨-, rfl⟩ := Prod.mk.inj (Option.some.inj h)
      exact hw
    · exact absurd h nofun
  · exact absurd h nofun

/-- R28, R29: which line reports at its sample, and what. -/
theorem reportAt_eq_some {s : State} {l : Line} {board made : Nat} : reportAt s l = some (board, made) ↔
    ∃ w tag, (s.cells.get l).window = some w ∧ w.source = .spot board tag ∧ w.left ≤ 1 ∧ made = w.made + 1
      ∧ (captureAt s l).isSome = true := by
  constructor
  · intro h
    obtain ⟨⟨e, w⟩, hc, hr⟩ := Option.bind_eq_some_iff.mp h
    dsimp only at hr
    split at hr
    · next hleft =>
      obtain ⟨⟨tag, htag⟩, hmade⟩ := report_eq_some.mp hr
      have hleft : w.left - 1 = 0 := hleft
      exact ⟨w, tag, captureAt_window hc, htag, by omega, hmade, by rw [hc]; rfl⟩
    · exact absurd hr nofun
  · rintro ⟨w, tag, hw, htag, hleft, rfl, hsome⟩
    obtain ⟨⟨e, v⟩, hc⟩ := Option.isSome_iff_exists.mp hsome
    obtain rfl : v = w := Option.some.inj ((captureAt_window hc).symm.trans hw)
    have hzero : v.captured.left = 0 := Nat.sub_eq_zero_of_le hleft
    rw [reportAt, hc, Option.bind_some, if_pos hzero]
    exact report_eq_some.mpr ⟨⟨tag, htag⟩, rfl⟩

/-- R26, R28, R112: what samples leave, beside what other lemmas name. -/
structure SameFrame (s t : State) : Prop where
  static : t.static = s.static
  health : t.health = { s.health with faultsNow := t.health.faultsNow }
  outside : t.outside = s.outside
  now : t.now = s.now
  pending : t.pending = s.pending

theorem sampleLines_frame (ls : List Line) (s : State) : SameFrame s (sampleLines ls s) := by
  induction ls generalizing s with
  | nil => exact ⟨rfl, rfl, rfl, rfl, rfl⟩
  | cons l ls ih =>
    have h := ih (sampleLine l s)
    exact ⟨h.static, h.health, h.outside, h.now, h.pending⟩

theorem recordAt_length (s : State) (ls : List Line) :
    (ls.filterMap (recordAt s)).length = ls.countP fun l => (captureAt s l).isSome := by
  induction ls with
  | nil => rfl
  | cons l ls ih => cases h : captureAt s l <;> simp [recordAt, h, ← ih]

/-- Settles O23: a line edge. -/
theorem lineEdgeCapturesInLineOrder : Obligations.LineEdgeCapturesInLineOrder := by
  intro levels s
  let u : State := { s with outside := { s.outside with lines := levels } }
  have hframe := sampleLines_frame allLines u
  have hwork : (sampleLines allLines u).service = s.service := sampleLines_service allLines u
  have hport : (sampleLines allLines u).port = s.port := sampleLines_port allLines u
  have hhealth : (settlePort (sampleLines allLines u)).health =
      { s.health with faultsNow := (sampleLines allLines u).health.faultsNow } :=
    (settlePort_health _).trans hframe.health
  refine ⟨settlePort (sampleLines allLines u), rfl, fun l => ?cells, ?staging,
    (settlePort_control _).trans (sampleLines_control allLines u), (settlePort_timer _).trans (sampleLines_timer allLines u),
    (settlePort_store _).trans (sampleLines_store allLines u), (settlePort_static _).trans hframe.static,
    (settlePort_loader _).trans (sampleLines_loader allLines u), (settlePort_writer _).trans (sampleLines_writer allLines u),
    hwork ▸ settlePort_sameWork _, portGoesOn_settlePort (portGoesOn_of_eq hport), ?queue, ?reported, ?faults,
    (congrArg Health.score hhealth :), (congrArg Health.faults hhealth :), (congrArg Health.overruns hhealth :),
    (congrArg Health.syncFaults hhealth :), (settlePort_outside _).trans hframe.outside,
    (settlePort_now _).trans hframe.now, (settlePort_pending _).trans hframe.pending⟩
  case cells => rw [settlePort_cells, sampleLines_cells allLines_nodup, if_pos (mem_allLines l)]; rfl
  case staging => rw [settlePort_staging, sampleLines_staging allLines_nodup]; rfl
  case queue =>
    rw [settlePort_queue, sampleLines_queue allLines_nodup]
    exact reports_eq s.queue _
  case reported =>
    rw [settlePort_queue, sampleLines_queue allLines_nodup]
    refine reported_of_lines (f := reportAt u) fun l board made => ?_
    rw [reportAt_eq_some, and_iff_right (mem_allLines l)]
    rfl
  case faults =>
    have hloss : (!s.journalWriteOutstanding && s.staging.losesSome (allLines.filterMap (recordAt u)).length) =
        s.ReportsLoss (allLines.countP fun l => (captureAt u l).isSome) := by
      rw [recordAt_length, FrameEnds.losesSome_eq]
      rfl
    have hfaults := sampleLines_faultsNow allLines_nodup u
    rw [Bool.and_assoc] at hfaults
    rw [settlePort_health, hfaults]
    exact congrArg (fun b => { s.health.faultsNow with
      loss := s.health.faultsNow.loss || (s.timer.frameTime.isSome && b) }) hloss

end Sys2Proof.Proofs.LineSamples
end

section
/-! PROOFS. The dynamic phase (R98 to R105): expiry, placement, the start and the end of a spot action, revalidation. -/

namespace Sys2Proof.Proofs.DynamicPhase

open Sys2Proof Sys2Proof.Machine Sys2Proof.Proofs.FrameScore Sys2Proof.Proofs.WindowReports Sys2Proof.Proofs.PortGrants
open Sys2Proof.Proofs.EveryStepKeeps Sys2Proof.Proofs.TimedEvents

/-! ## Expiry and the walk -/

theorem expire_of_expires {e : Entry} {frame : Word} (h : e.expires frame = true) :
    e.expire frame = e.finish .expired .none false := if_pos h

theorem expire_of_not_expires {e : Entry} {frame : Word} (h : ¬ e.expires frame = true) : e.expire frame = e := if_neg h

/-- R98, R100, R101: which entries the walk considers. -/
theorem walked_iff (e : Entry) (frame : Word) (held : Bool) : e.walked frame held = true ↔
    e.status = .waiting ∧ (frame - e.earliest).toNat < 2147483648
      ∧ ¬ (held = true ∧ kindIsOutput e.request.kind = true) := by
  simp only [Entry.walked, Bool.and_eq_true, due_iff, Bool.not_eq_true', Bool.and_eq_false_iff, and_assoc, not_and_or,
    Bool.not_eq_true]

/-- R100: where an entry fits. -/
theorem fits_iff (e : Entry) (g : Geometry) (free : Nat) : e.fits g free = true ↔
    free ≤ g.latestStart ∧ free + e.request.minislots g ≤ g.minislots := by
  simp [Entry.fits]

theorem placeWalk_of_fits {g : Geometry} {frame : Word} {held : Bool} {free : Nat} {e : Entry}
    (hw : e.walked frame held = true) (hf : e.fits g free = true) (rest : List Entry) :
    placeWalk g frame held free (e :: rest) =
      (let r := placeWalk g frame held (free + e.request.minislots g) rest
      (e.place free :: r.1, { board := e.board, minislot := free } :: r.2.1, r.2.2)) := by
  rw [placeWalk, if_pos hw, if_pos hf]

theorem placeWalk_of_not_fits {g : Geometry} {frame : Word} {held : Bool} {free : Nat} {e : Entry}
    (hw : e.walked frame held = true) (hf : ¬ e.fits g free = true) (rest : List Entry) :
    placeWalk g frame held free (e :: rest) = (e :: rest, [], free) := by
  rw [placeWalk, if_pos hw, if_neg hf]

theorem placeWalk_of_not_walked {g : Geometry} {frame : Word} {held : Bool} {e : Entry}
    (hw : ¬ e.walked frame held = true) (free : Nat) (rest : List Entry) :
    placeWalk g frame held free (e :: rest) =
      (let r := placeWalk g frame held free rest
      (e :: r.1, r.2)) := by
  rw [placeWalk, if_neg hw]

/-- Settles O39: the dynamic-phase start, entry by entry. -/
theorem dynamicPhaseStartExpiresAndPlaces : Obligations.DynamicPhaseStartExpiresAndPlaces := by
  refine ⟨fun s hs hpos ht => ?start, fun e frame => ?expiry, fun g frame held free e rest => ?walk, fun _ _ _ _ => rfl⟩
  case start =>
    exact congrArg Host.Outcome.next (whenDue_of_due ((dynamicDue_iff s).mpr ⟨hs, hpos, ht⟩) startDynamic s)
  case expiry =>
    exact ⟨fun h => expire_of_expires ((expires_iff e frame).mpr h),
      fun h => expire_of_not_expires (mt (expires_iff e frame).mp h)⟩
  case walk =>
    exact ⟨fun hw hf => placeWalk_of_fits ((walked_iff e frame held).mpr hw) ((fits_iff e g free).mpr hf) rest,
      fun hw hf => placeWalk_of_not_fits ((walked_iff e frame held).mpr hw) (mt (fits_iff e g free).mp hf) rest,
      fun hw => placeWalk_of_not_walked (mt (walked_iff e frame held).mp hw) free rest⟩

/-! ## Placement keeps minislots apart -/

theorem minislots_pos (r : Request) (g : Geometry) : 1 ≤ r.minislots g := Nat.le_max_left _ _

/-- An entry placed by a walk from `first`. -/
def PlacedFrom (g : Geometry) (first : Nat) (e : Entry) : Prop :=
  ∃ m, e.startMinislot = some m ∧ first ≤ m ∧ m ≤ g.latestStart ∧ m + e.request.minislots g ≤ g.minislots

theorem PlacedFrom.mono {g : Geometry} {first later : Nat} {e : Entry} (h : PlacedFrom g later e) (hle : first ≤ later) :
    PlacedFrom g first e := by
  obtain ⟨m, hm, hl, hrest⟩ := h
  exact ⟨m, hm, hle.trans hl, hrest⟩

/-- R100: an entry of the walk that was not there before it was placed by it. -/
theorem placedFrom_of_new {g : Geometry} {frame : Word} {held : Bool} {first : Nat} {es : List Entry} {e : Entry}
    (he : e ∈ (placeWalk g frame held first es).1) (hnew : e ∉ es) : PlacedFrom g first e := by
  induction es generalizing first with
  | nil => exact absurd he List.not_mem_nil
  | cons x rest ih =>
    obtain ⟨hx, hrest⟩ : e ≠ x ∧ e ∉ rest := by simpa using hnew
    by_cases hw : x.walked frame held = true
    · by_cases hf : x.fits g first = true
      · rw [placeWalk_of_fits hw hf] at he
        obtain rfl | he := List.mem_cons.mp he
        · obtain ⟨hs, hm⟩ := (fits_iff x g first).mp hf
          exact ⟨first, rfl, le_rfl, hs, hm⟩
        · exact (ih he hrest).mono (Nat.le_add_right _ _)
      · rw [placeWalk_of_not_fits hw hf] at he
        exact absurd he hnew
    · rw [placeWalk_of_not_walked hw] at he
      exact ih ((List.mem_cons.mp he).resolve_left hx) hrest

/-- R100: the run list starts at the walk's first minislot or later. -/
theorem first_le_minislot {g : Geometry} {frame : Word} {held : Bool} {first : Nat} {es : List Entry} {p : Placement}
    (hp : p ∈ (placeWalk g frame held first es).2.1) : first ≤ p.minislot := by
  induction es generalizing first with
  | nil => exact absurd hp List.not_mem_nil
  | cons x rest ih =>
    by_cases hw : x.walked frame held = true
    · by_cases hf : x.fits g first = true
      · rw [placeWalk_of_fits hw hf] at hp
        obtain rfl | hp := List.mem_cons.mp hp
        · exact le_rfl
        · exact (Nat.le_add_right _ _).trans (ih hp)
      · rw [placeWalk_of_not_fits hw hf] at hp
        exact absurd hp List.not_mem_nil
    · rw [placeWalk_of_not_walked hw] at hp
      exact ih hp

/-- R100: the run list ascends. -/
theorem runList_ascends (g : Geometry) (frame : Word) (held : Bool) (first : Nat) (es : List Entry) :
    (placeWalk g frame held first es).2.1.Pairwise fun a b => a.minislot < b.minislot := by
  induction es generalizing first with
  | nil => exact .nil
  | cons x rest ih =>
    by_cases hw : x.walked frame held = true
    · by_cases hf : x.fits g first = true
      · rw [placeWalk_of_fits hw hf]
        refine List.pairwise_cons.mpr ⟨fun p hp => ?_, ih _⟩
        have hle := first_le_minislot hp
        have hpos := minislots_pos x.request g
        show first < p.minislot
        omega
      · rw [placeWalk_of_not_fits hw hf]
        exact .nil
    · rw [placeWalk_of_not_walked hw]
      exact ih first

/-- R100: of two entries that a walk placed, the earlier ends before the later begins. -/
theorem placed_apart {g : Geometry} {frame : Word} {held : Bool} {first : Nat} {es : List Entry} {a b : Entry}
    (ha : a ∈ (placeWalk g frame held first es).1) (hb : b ∈ (placeWalk g frame held first es).1) (hna : a ∉ es)
    (hnb : b ∉ es) {m n : Nat} (hm : a.startMinislot = some m) (hn : b.startMinislot = some n) (hlt : m < n) :
    m + a.request.minislots g ≤ n := by
  induction es generalizing first with
  | nil => exact absurd ha List.not_mem_nil
  | cons x rest ih =>
    obtain ⟨hax, hna'⟩ : a ≠ x ∧ a ∉ rest := by simpa using hna
    obtain ⟨hbx, hnb'⟩ : b ≠ x ∧ b ∉ rest := by simpa using hnb
    by_cases hw : x.walked frame held = true
    · by_cases hf : x.fits g first = true
      · rw [placeWalk_of_fits hw hf] at ha hb
        obtain rfl | ha := List.mem_cons.mp ha
        · obtain rfl : first = m := Option.some.inj hm
          obtain rfl | hb := List.mem_cons.mp hb
          · obtain rfl : first = n := Option.some.inj hn
            exact absurd hlt (lt_irrefl _)
          · obtain ⟨k, hk, hle, -⟩ := placedFrom_of_new hb hnb'
            obtain rfl : k = n := Option.some.inj (hk.symm.trans hn)
            exact hle
        · obtain rfl | hb := List.mem_cons.mp hb
          · obtain rfl : first = n := Option.some.inj hn
            obtain ⟨k, hk, hle, -⟩ := placedFrom_of_new ha hna'
            obtain rfl : k = m := Option.some.inj (hk.symm.trans hm)
            omega
          · exact ih ha hb hna' hnb'
      · rw [placeWalk_of_not_fits hw hf] at ha
        exact absurd ha hna
    · rw [placeWalk_of_not_walked hw] at ha hb
      exact ih ((List.mem_cons.mp ha).resolve_left hax) ((List.mem_cons.mp hb).resolve_left hbx) hna' hnb'

/-- R101: in HELD no entry of an output kind is placed. -/
theorem placed_of_held {g : Geometry} {frame : Word} {first : Nat} {es : List Entry} (hes : ∀ e ∈ es, e.status ≠ .placed)
    {e : Entry} (he : e ∈ (placeWalk g frame true first es).1) (hp : e.status = .placed) :
    kindIsOutput e.request.kind = false := by
  induction es generalizing first with
  | nil => exact absurd he List.not_mem_nil
  | cons x rest ih =>
    have hrest : ∀ e ∈ rest, e.status ≠ .placed := fun e he => hes e (List.mem_cons_of_mem _ he)
    by_cases hw : x.walked frame true = true
    · by_cases hf : x.fits g first = true
      · rw [placeWalk_of_fits hw hf] at he
        obtain rfl | he := List.mem_cons.mp he
        · obtain ⟨-, -, hout⟩ := (walked_iff x frame true).mp hw
          show kindIsOutput x.request.kind = false
          simpa using hout
        · exact ih hrest he
      · rw [placeWalk_of_not_fits hw hf] at he
        exact absurd hp (hes e he)
    · rw [placeWalk_of_not_walked hw] at he
      obtain rfl | he := List.mem_cons.mp he
      · exact absurd hp (hes e List.mem_cons_self)
      · exact ih hrest he

/-- Settles O40: a walk places entries one after the other, each within its bounds. -/
theorem placementKeepsMinislotsApart : Obligations.PlacementKeepsMinislotsApart := by
  refine ⟨fun g frame held first es => ⟨fun e he _ hnew => placedFrom_of_new he hnew, runList_ascends g frame held first es,
    fun a b ha hb hna hnb m n hm hn hlt => placed_apart ha hb hna hnb hm hn hlt, placeWalk_boards g frame held first es⟩,
    fun g frame first es hes e he hp => placed_of_held hes he hp⟩

/-! ## Revalidation -/

theorem lineMode_iff (plan : List Byte) (r : Request) : requestLineMode plan r = true ↔
    (kindIsOutput r.kind = true ∧ (planSettings plan (lineOf r.line)).direction ≠ .drive)
      ∨ (kindIsWindow r.kind = true ∧ (planSettings plan (lineOf r.line)).direction ≠ .sense) := by
  simp [requestLineMode, kindMismatch]

theorem tooLong_iff (g : Geometry) (r : Request) : requestTooLong g r = true ↔
    g.minislots = 0 ∨ g.minislots < r.minislots g := by
  simp [requestTooLong]

/-- Settles O43: revalidation of one entry. -/
theorem revalidationRejectsUnsuitedEntries : Obligations.RevalidationRejectsUnsuitedEntries := by
  intro plan e g d mismatch long
  have hline : requestLineMode plan e.request = true ↔ mismatch := lineMode_iff plan e.request
  have hlong : requestTooLong g e.request = true ↔ long := tooLong_iff g e.request
  refine ⟨fun hs hm => ?_, fun hs hm hl => ?_, fun h => ?_⟩
  · rw [Entry.revalidate, if_pos hs, if_pos (hline.mpr hm)]
    rfl
  · rw [Entry.revalidate, if_pos hs, if_neg (mt hline.mp hm), if_pos (hlong.mpr hl)]
    rfl
  · obtain hs | ⟨hm, hl⟩ := h
    · rw [Entry.revalidate, if_neg hs]
    · rw [Entry.revalidate, if_neg (mt hline.mp hm), if_neg (mt hlong.mp hl), ite_self]

end Sys2Proof.Proofs.DynamicPhase
end

section
/-! PROOFS. The Spot Generator (R30, R102, R103): the start and the end of a spot action. -/

namespace Sys2Proof.Proofs.SpotActions

open Sys2Proof Sys2Proof.Machine Sys2Proof.Proofs.FrameScore Sys2Proof.Proofs.WindowReports Sys2Proof.Proofs.PortGrants
open Sys2Proof.Proofs.EveryStepKeeps Sys2Proof.Proofs.TimedEvents

/-! ## The end of a spot action -/

/-- R103: which windows close with a spot action. -/
theorem spotWindowDue_iff (cells : Vector Cell 16) (board now : Nat) (l : Line) : spotWindowDue cells board now l = true ↔
    ∃ w, (cells.get l).window = some w ∧ w.closeTick ≤ now ∧ ∃ tag, w.source = .spot board tag := by
  unfold spotWindowDue
  cases (cells.get l).window with
  | none => simp
  | some w =>
    obtain ⟨edge, left, made, closeTick, source⟩ := w
    cases source with
    | static a b => simp
    | spot b tag =>
      simp only [Bool.and_eq_true, beq_iff_eq, decide_eq_true_iff, Option.some.injEq, exists_eq_left', WindowSource.spot.injEq]
      constructor
      · rintro ⟨rfl, hle⟩
        exact ⟨hle, tag, rfl, rfl⟩
      · rintro ⟨hle, _, rfl, -⟩
        exact ⟨rfl, hle⟩

/-- The windows that close with the spot action of a board index. -/
def Closes (s : State) (board : Nat) (l : Line) (w : Window) : Prop :=
  (s.cells.get l).window = some w ∧ w.closeTick ≤ s.now ∧ ∃ tag, w.source = .spot board tag

/-- R29, R103: the reports at the end of a spot action. -/
theorem mem_spotReports (s : State) (board b made : Nat) :
    some (b, made) ∈ windowReports s.cells (spotWindowDue s.cells board s.now) ↔
      b = board ∧ ∃ l w, Closes s board l w ∧ made = w.made := by
  simp only [windowReports, List.mem_map, List.mem_filter, mem_allLines, true_and, spotWindowDue_iff, windowReport_eq_some]
  constructor
  · rintro ⟨l, ⟨w, hw, hle, tag, htag⟩, v, tag', hv, htag', rfl⟩
    obtain rfl : w = v := Option.some.inj (hw.symm.trans hv)
    obtain ⟨rfl, -⟩ := WindowSource.spot.inj (htag.symm.trans htag')
    exact ⟨rfl, l, w, ⟨hw, hle, tag, htag⟩, rfl⟩
  · rintro ⟨rfl, l, w, ⟨hw, hle, tag, htag⟩, rfl⟩
    exact ⟨l, ⟨w, hw, hle, tag, htag⟩, w, tag, hw, htag, rfl⟩

/-- The captures made that the end of a spot action leaves for its entry. -/
def spotCaptures (s : State) (board : Nat) (e : Entry) : Nat :=
  reportsFor board e.result.captures (windowReports s.cells (spotWindowDue s.cells board s.now))

/-- R103: the entries after the end of a spot action. -/
theorem finishSpot_entries (a : SpotAction) (s : State) : (finishSpot a s).queue.entries =
    s.queue.entries.map fun e =>
      if e.board = a.board then
        { e with
          status := .finished, ending := .done
          result := { e.result with detail := .none, afterSwitch := false, captures := spotCaptures s a.board e } }
      else e := by
  have hq : (finishSpot a s).queue.entries = ((s.queue.reports
      (windowReports s.cells (spotWindowDue s.cells a.board s.now))).entries.map fun e =>
        if e.board = a.board then e.finish .done .none false else e) := rfl
  rw [hq, reports_entries, List.map_map]
  refine List.map_congr_left fun e _ => ?_
  by_cases hb : e.board = a.board
  · simp [hb, withCaptures, Entry.finish, spotCaptures]
  · have hnone : reportsFor e.board e.result.captures (windowReports s.cells (spotWindowDue s.cells a.board s.now)) =
        e.result.captures := reportsFor_of_forall fun m hm => hb ((mem_spotReports s a.board e.board m).mp hm).1
    simp [hb, hnone]

theorem finishSpot_queue (a : SpotAction) (s : State) :
    (finishSpot a s).queue = { s.queue with action := none, entries := (finishSpot a s).queue.entries } := by
  have hq : (finishSpot a s).queue =
      (s.queue.reports (windowReports s.cells (spotWindowDue s.cells a.board s.now))).finishAction a := rfl
  rw [hq, reports_eq]
  rfl

theorem finishSpot_cells (a : SpotAction) (s : State) (l : Line) : (finishSpot a s).cells.get l =
    if spotWindowDue s.cells a.board s.now l = true then (s.cells.get l).closeWindow else s.cells.get l :=
  mapCells_get _ _ l

theorem exec_spotActionEnd {s : State} {a : SpotAction} (ha : s.queue.action = some a) (hle : a.stop ≤ s.now) :
    exec .spotActionEnd s = .next (finishSpot a s) := by
  have hdue : spotDue s = some a := (spotDue_eq_some s a).mpr ⟨ha, hle⟩
  show Host.Outcome.next ((spotDue s).elim s fun a => finishSpot a s) = _
  rw [hdue]
  rfl

/-- Settles O42: the end of a spot action. -/
theorem spotActionEndFinishesTheEntry : Obligations.SpotActionEndFinishesTheEntry := by
  intro s a ha hle closes finished
  have hentries : (finishSpot a s).queue.entries = finished (spotCaptures s a.board) := finishSpot_entries a s
  have hsame : ∀ {f g : Entry → Nat}, (∀ e, f e = g e) → finished f = finished g := fun h => by rw [funext h]
  refine ⟨_, exec_spotActionEnd ha hle, rfl, finishSpot_queue a s, fun hnone => ?none, fun l w hc honly => ?one, ⟨_, hentries⟩,
    fun l w hc => ?closed, fun l hl => ?kept⟩
  case none =>
    refine hentries.trans (hsame fun e => reportsFor_of_forall fun m hm => ?_)
    obtain ⟨-, l, w, hc, -⟩ := (mem_spotReports s a.board a.board m).mp hm
    exact hnone l w hc
  case one =>
    refine hentries.trans (hsame fun e => reportsFor_of_mem ((mem_spotReports ..).mpr ⟨rfl, l, w, hc, rfl⟩) fun k hk => ?_)
    obtain ⟨-, j, v, hv, rfl⟩ := (mem_spotReports ..).mp hk
    obtain rfl := honly j v hv
    rw [Option.some.inj (hv.1.symm.trans hc.1)]
  case closed => rw [finishSpot_cells, if_pos ((spotWindowDue_iff ..).mpr ⟨w, hc⟩)]; rfl
  case kept =>
    refine (finishSpot_cells a s l).trans (if_neg fun h => ?_)
    obtain ⟨w, hw⟩ := (spotWindowDue_iff ..).mp h
    exact hl w hw

/-! ## The start of a spot action -/

/-- R5: the minislot of a frame time. -/
theorem minislotStarting_at {s : State} {m : Nat} (hd : s.timer.phase.isDynamic = true)
    (hm : m < s.timer.geometry.minislots) (hpos : 0 < s.timer.geometry.minislotLength)
    (ht : s.timer.frameTime =
      some (s.timer.geometry.slots * s.timer.geometry.slotLength + m * s.timer.geometry.minislotLength)) :
    minislotStarting s = some m := by
  have hsub : s.timer.geometry.slots * s.timer.geometry.slotLength + m * s.timer.geometry.minislotLength
      - s.timer.geometry.staticLength = m * s.timer.geometry.minislotLength := Nat.add_sub_cancel_left ..
  refine (minislotStarting_eq_some s m).mpr ⟨hd, _, ht, Nat.le_add_right _ _, ?_, ?_, ?_⟩
  · rw [hsub, Nat.mul_mod_left]
  · rwa [hsub, Nat.mul_div_cancel _ hpos]
  · rw [hsub, Nat.mul_div_cancel _ hpos]

theorem exec_minislotStart {s : State} {m : Nat} (hm : minislotStarting s = some m) :
    exec .minislotStart s = .next (minislotStarts m s) := by
  show Host.Outcome.next ((minislotStarting s).elim s fun m => minislotStarts m s) = _
  rw [hm]
  rfl

theorem finishSpotDue_of_not_due {s : State} (h : ∀ a, s.queue.action = some a → s.now < a.stop) : finishSpotDue s = s := by
  have hnone : spotDue s = none := Option.eq_none_iff_forall_ne_some.mpr fun a ha => by
    obtain ⟨hq, hle⟩ := (spotDue_eq_some s a).mp ha
    exact absurd (h a hq) (not_lt.mpr hle)
  rw [finishSpotDue, hnone]
  rfl

theorem finishSpotDue_of_due {s : State} {a : SpotAction} (ha : s.queue.action = some a) (hle : a.stop ≤ s.now) :
    finishSpotDue s = finishSpot a s := by
  rw [finishSpotDue, (spotDue_eq_some s a).mpr ⟨ha, hle⟩]
  rfl

/-- R102: the start of a MARK. -/
theorem startSpot_of_mark {e : Entry} (h : e.request.op = some .mark) (s : State) : startSpot e s =
    settlePort (offer [.mark e.tag e.board] (stamp s)
      { s with queue := s.queue.execute e s.timer.current (s.timer.frameTime.getD 0) s.now }) := by
  simp only [startSpot, h]

/-- R30, R102: the start of any other operation. -/
theorem startSpot_of_op {e : Entry} {op : Operation} (h : e.request.op = some op) (hn : op ≠ .mark) (s : State) :
    startSpot e s =
      { s with
        queue := s.queue.execute e s.timer.current (s.timer.frameTime.getD 0) s.now
        cells := updateCell s.cells (lineOf e.request.line) fun c => c.take s.now op (.spot e.board e.tag) } := by
  simp only [startSpot, h]

theorem duration_of_op {r : Request} {op : Operation} (h : r.op = some op) : r.duration = op.duration := by
  rw [Request.duration, h]
  rfl

theorem minislotStarts_of_not_due {s : State} (h : ∀ a, s.queue.action = some a → s.now < a.stop) (m : Nat) :
    minislotStarts m s = startPlaced m (enterMinislot m s) := by
  rw [minislotStarts, finishSpotDue_of_not_due (s := enterMinislot m s) h]

theorem startPlaced_of_none {s : State} {m : Nat} (h : s.queue.startingAt m = none) : startPlaced m s = s := by
  rw [startPlaced, h]
  rfl

theorem startPlaced_of_some {s : State} {m : Nat} {e : Entry} (h : s.queue.startingAt m = some e) :
    startPlaced m s = startSpot e s := by
  rw [startPlaced, h]
  rfl

/-- R102: the queue when the action of an entry starts. -/
theorem execute_eq {e : Entry} {op : Operation} (hop : e.request.op = some op) (q : Queue) (frame : Word)
    {o : Option Nat} {time : Nat} (ht : o = some time) (now : Nat) : q.execute e frame (o.getD 0) now =
      { q with
        action := some { board := e.board, start := now, stop := now + op.duration }
        entries := q.entries.map fun x =>
          if x.board = e.board then
            { x with status := .executing, result := { x.result with startFrame := frame, startTime := time } }
          else x } := by
  rw [ht, Queue.execute, duration_of_op hop]
  rfl

/-- Settles O41: a minislot start. -/
theorem minislotStartRunsThePlacedEntry : Obligations.MinislotStartRunsThePlacedEntry := by
  refine ⟨fun s m hd hm hpos ht hnot => ⟨fun hnone => ?idle, fun e op he hop => ?start⟩,
    fun s m a hd hm hpos ht ha hle => ?ended⟩
  case idle =>
    have hexec := exec_minislotStart (minislotStarting_at hd hm hpos ht)
    rw [minislotStarts_of_not_due hnot, startPlaced_of_none (s := enterMinislot m s) hnone] at hexec
    exact hexec
  case start =>
    have hexec := exec_minislotStart (minislotStarting_at hd hm hpos ht)
    rw [minislotStarts_of_not_due hnot, startPlaced_of_some (s := enterMinislot m s) he] at hexec
    have hqueue := execute_eq hop s.queue s.timer.current ht s.now
    by_cases hmark : op = .mark
    · subst hmark
      rw [startSpot_of_mark hop] at hexec
      refine ⟨_, hexec, settlePort_timer _, (settlePort_queue _).trans hqueue,
        fun _ => ⟨settlePort_cells _, settlePort_staging _⟩, fun h => absurd rfl h, settlePort_control _, settlePort_store _,
        settlePort_static _, settlePort_loader _, fun _ => ?health, settlePort_writer _, settlePort_sameWork _,
        portGoesOn_settlePort (portGoesOn_of_eq rfl), settlePort_now _, settlePort_outside _, settlePort_pending _⟩
      case health =>
        have hloss : (s.frameRunning && !s.journalWriteOutstanding && s.staging.losesSome 1) = s.ReportsLoss 1 := by
          rw [State.frameRunning, ht, FrameEnds.losesSome_eq, State.ReportsLoss, Option.isSome_some, Bool.true_and]
        exact (settlePort_health _).trans (congrArg s.health.reportLoss hloss)
    · rw [startSpot_of_op hop hmark] at hexec
      obtain ⟨hself, hothers⟩ := LineCells.updateCell_cells s.cells (lineOf e.request.line)
        (f := fun c => c.take s.now op (.spot e.board e.tag)) rfl
      exact ⟨_, hexec, rfl, hqueue, fun h => absurd h hmark, fun _ => ⟨rfl, rfl, hself, hothers⟩, rfl, rfl, rfl, rfl,
        fun h => absurd h hmark, rfl, sameWork_rfl _, portGoesOn_of_eq rfl, rfl, rfl, rfl⟩
  case ended =>
    have hstart : minislotStarting (finishSpot a s) = some m := minislotStarting_at (s := finishSpot a s) hd hm hpos ht
    have hnone : (finishSpot a s).queue.action = none := by rw [finishSpot_queue]
    have hu : minislotStarts m (finishSpot a s) = startPlaced m (enterMinislot m (finishSpot a s)) :=
      minislotStarts_of_not_due (fun b hb => by simp [hnone] at hb) m
    have hs : minislotStarts m s = startPlaced m (enterMinislot m (finishSpot a s)) := by
      rw [minislotStarts, finishSpotDue_of_due (s := enterMinislot m s) ha hle]
      rfl
    exact ⟨_, _, exec_spotActionEnd ha hle, hnone, (exec_minislotStart hstart).trans (congrArg Host.Outcome.next hu),
      (exec_minislotStart (minislotStarting_at hd hm hpos ht)).trans (congrArg Host.Outcome.next hs)⟩

end Sys2Proof.Proofs.SpotActions
end

section
/-! PROOFS. The service window and the closing status write (R126, R136). -/

namespace Sys2Proof.Proofs.ServiceWindow

open Sys2Proof Sys2Proof.Machine Sys2Proof.Proofs.FrameScore Sys2Proof.Proofs.PortGrants Sys2Proof.Proofs.TimedEvents

/-- R126: the Service Unit at the start of a pass, but for what issuing its read sets. -/
structure PassStarts (s : State) (v : Service) : Prop where
  activity : v.activity = .pass
  step : v.step = .a
  flags : v.backlog = false ∧ v.junk = false ∧ v.releaseBad = false ∧ v.noted = false
  boardPos : v.boardPos = 0
  postList : v.postList = []
  owed : v.owed = false
  passFrame : v.passFrame = s.timer.current
  hostControl : v.hostControl = s.service.hostControl

theorem passStarts_of_sameWork {s : State} {v : Service} (h : (startPass s).service.SameWork v) : PassStarts s v := by
  obtain ⟨h1, h2, h3, h4, h5, h6, h7, h8, h9, h10, h11, -⟩ := h
  exact ⟨h1, h2, ⟨h5, h6, h7, h8⟩, h4, h3, h10, h11, h9⟩

/-- Settles O44: the service window starts a pass, or owes one. -/
theorem serviceWindowStartsOrOwesAPass : Obligations.ServiceWindowStartsOrOwesAPass := by
  intro s hphase ht
  have hexec : exec .serviceWindowStart s = .next (serviceWindow s) :=
    congrArg Host.Outcome.next (whenDue_of_due ((serviceDue_iff s).mpr ⟨hphase, ht⟩) serviceWindow s)
  refine ⟨fun ha => ?starts, fun ha => ?owes⟩
  case starts =>
    let u : State := startPass { s with timer := { s.timer with phase := .service } }
    have hwindow : serviceWindow s = grantFree u := by rw [serviceWindow, ha]
    rw [hwindow] at hexec
    obtain ⟨hact, hstep, ⟨hbacklog, hjunk, hrelease, hnoted⟩, hpos, hlist, howed, hframe, hhost⟩ :=
      passStarts_of_sameWork (grantFree_sameWork u)
    exact ⟨_, hexec, grantFree_timer _, hact, hstep, hbacklog, hjunk, hrelease, hnoted, hpos, hlist, howed, hframe, hhost,
      grantFree_asks (s := u) (r := .service) rfl, grantFree_control _, grantFree_cells _, grantFree_store _,
      grantFree_static _, grantFree_loader _, grantFree_queue _, grantFree_staging _, grantFree_writer _,
      grantFree_health _, portGoesOn_grantFree (s := s) (t := u) ⟨⟨rfl, rfl⟩, fun _ hx => hx⟩, grantFree_now _,
      grantFree_outside _, grantFree_pending _⟩
  case owes =>
    rw [hexec]
    obtain ha | ha := ha <;> rw [serviceWindow, ha]

/-- Settles O45: the closing status write begins. -/
theorem closingWriteBeginsWhenDrained : Obligations.ClosingWriteBeginsWhenDrained := by
  intro s ha hdrained
  let u : State := beginClosing s
  have hexec : exec .closingStatusWrite s = .next (grantFree u) :=
    congrArg Host.Outcome.next (whenDue_of_due ((closingDue_iff s).mpr ⟨ha, hdrained⟩) _ s)
  obtain ⟨hact, hstep, -⟩ := grantFree_sameWork u
  exact ⟨_, hexec, hact, hstep, grantFree_asks (s := u) (r := .service) rfl, grantFree_control _,
    ⟨grantFree_timer _, grantFree_cells _, grantFree_store _, grantFree_static _, grantFree_queue _⟩, grantFree_loader _,
    grantFree_staging _, grantFree_writer _, grantFree_health _,
    portGoesOn_grantFree (s := s) (t := u) ⟨⟨rfl, rfl⟩, fun _ hx => hx⟩, grantFree_now _, grantFree_outside _,
    grantFree_pending _⟩

end Sys2Proof.Proofs.ServiceWindow
end

section
/-! PROOFS. What the end of a transfer leaves (R142, R144): the effect of its requester, then the writer's poll and the grant,
which touch nothing but the port and the Service Unit's record of what it issued; and LOAD's setup read (R161, R162). -/

namespace Sys2Proof.Proofs.SetupReads

open Sys2Proof Sys2Proof.Machine Sys2Proof.Proofs.PortGrants Sys2Proof.Proofs.Moves

/-! ## The end of a transfer -/

/-- `t` is `v` after the poll of the writer and a grant: only the port, the Service Unit's record of what it issued and the
count of choices may differ. -/
structure Settles (v t : State) : Prop where
  rest : t = { v with service := t.service, port := t.port, choices := t.choices }
  work : v.service.SameWork t.service
  timeout : t.port.timeout = v.port.timeout
  busFaults : t.port.busFaults = v.port.busFaults
  asks : ∀ q w, v.port.waiting q = some w → t.Asks q w.kind w.address w.length

namespace Settles

variable {v t : State}

theorem control (h : Settles v t) : t.control = v.control := by rw [h.rest]
theorem timer (h : Settles v t) : t.timer = v.timer := by rw [h.rest]
theorem cells (h : Settles v t) : t.cells = v.cells := by rw [h.rest]
theorem store (h : Settles v t) : t.store = v.store := by rw [h.rest]
theorem static (h : Settles v t) : t.static = v.static := by rw [h.rest]
theorem loader (h : Settles v t) : t.loader = v.loader := by rw [h.rest]
theorem queue (h : Settles v t) : t.queue = v.queue := by rw [h.rest]
theorem staging (h : Settles v t) : t.staging = v.staging := by rw [h.rest]
theorem writer (h : Settles v t) : t.writer = v.writer := by rw [h.rest]
theorem health (h : Settles v t) : t.health = v.health := by rw [h.rest]
theorem outside (h : Settles v t) : t.outside = v.outside := by rw [h.rest]
theorem now (h : Settles v t) : t.now = v.now := by rw [h.rest]
theorem pending (h : Settles v t) : t.pending = v.pending := by rw [h.rest]

theorem linesAndPlans (h : Settles v t) : v.SameLinesAndPlans t := ⟨h.timer, h.cells, h.store, h.static, h.queue⟩

theorem surroundings (h : Settles v t) : v.SameSurroundings t := ⟨h.now, h.outside, h.pending⟩

end Settles

theorem pollWriter_rest (v : State) : pollWriter v = { v with port := (pollWriter v).port } := rfl

theorem settles_poll (v : State) : Settles v (pollWriter v) where
  rest := rfl
  work := sameWork_rfl _
  timeout := pollWriter_port_timeout v
  busFaults := pollWriter_port_busFaults v
  asks _ _ hw := .inl (pollWriter_waiting hw)

theorem Settles.trans {u v t : State} (h : Settles u v) (k : ∀ q w, u.port.waiting q = some w → t.Asks q w.kind w.address w.length)
    (r : t = { v with service := t.service, port := t.port, choices := t.choices }) (w : v.service.SameWork t.service)
    (o : t.port.timeout = v.port.timeout) (b : t.port.busFaults = v.port.busFaults) : Settles u t where
  rest := by rw [r, h.rest]
  work := sameWork_trans h.work w
  timeout := o.trans h.timeout
  busFaults := b.trans h.busFaults
  asks := k

theorem grantTo_rest (q : Requester) (v : State) :
    grantTo q v = { v with service := (grantTo q v).service, port := (grantTo q v).port } := rfl

theorem grantAtEnd_rest (b : Port) (v : State) : grantAtEnd b v =
    { v with service := (grantAtEnd b v).service, port := (grantAtEnd b v).port, choices := (grantAtEnd b v).choices } := by
  unfold grantAtEnd
  dsimp only
  split <;> rfl

theorem grantFree_rest (v : State) : grantFree v =
    { v with service := (grantFree v).service, port := (grantFree v).port, choices := (grantFree v).choices } := by
  unfold grantFree
  split
  · rfl
  · split <;> rfl

theorem settles_atEnd (b : Port) (v : State) : Settles v (grantAtEnd b (pollWriter v)) :=
  (settles_poll v).trans (fun _ _ hw => grantAtEnd_asks b (pollWriter_waiting hw)) (grantAtEnd_rest b (pollWriter v))
    (grantAtEnd_sameWork b _) (grantAtEnd_timeout b _) (grantAtEnd_busFaults b _)

theorem settles_settlePort (v : State) : Settles v (settlePort v) :=
  (settles_poll v).trans (fun _ _ hw => settlePort_asks hw) (grantFree_rest (pollWriter v))
    (grantFree_sameWork _) (grantFree_timeout _) (grantFree_busFaults _)

/-- R142: a response of the kind that is outstanding, its result wanted, has its effect. -/
theorem exec_of_carries {s : State} {kind : TransferKind} (h : s.Carries kind) {e : Transfer → Option (State → State)}
    {f : State → State} (he : ∀ x, x.kind = kind → e x = some f) :
    respond e s = grantAtEnd s.port (pollWriter (f (freePort s))) := by
  obtain ⟨x, hx, hk, hd⟩ := h
  exact respond_of_live hx hd (he x hk)

theorem exec_setupReadDone {s : State} (h : s.Carries .setupRead) (data : Vector Byte 64) :
    exec (.setupReadDone data) s = .next (grantAtEnd s.port (pollWriter (setupReturns data.toList (freePort s)))) :=
  congrArg Host.Outcome.next (exec_of_carries h fun x hk => by rw [if_pos hk])

/-! ## The checks of the setup section (R161) -/

/-- R161, check 1. -/
def BoardOk (f : SetupFields) : Prop := 1 ≤ f.boardCount.toNat ∧ f.boardCount.toNat ≤ 32

/-- R161, check 2. -/
def JournalOk (xbase : Addr) (f : SetupFields) : Prop :=
  f.journalBase.toNat ≠ 0 ∧ f.journalBase.toNat % 32 = 0 ∧ (∃ k, 4 ≤ k ∧ k ≤ 12 ∧ f.journalSize.toNat = 2 ^ k)
    ∧ f.journalBase.toNat + 32 * f.journalSize.toNat ≤ 2 ^ 64
    ∧ (f.journalBase.toNat + 32 * f.journalSize.toNat ≤ xbase.toNat
      ∨ xbase.toNat + 192 + 48 * f.boardCount.toNat ≤ f.journalBase.toNat)

/-- A byte is the code of one of two values. -/
def IsFlag (b : Byte) : Prop := b = 0 ∨ b = 1

theorem boardOk_iff (f : SetupFields) : setupBoardOk f = true ↔ BoardOk f := by
  simp [setupBoardOk, BoardOk]

theorem journalSizeOk_iff (j : Nat) : journalSizeOk j = true ↔ ∃ k, 4 ≤ k ∧ k ≤ 12 ∧ j = 2 ^ k := by
  constructor
  · intro h
    simp only [journalSizeOk, Bool.or_eq_true, beq_iff_eq] at h
    obtain (((((((h | h) | h) | h) | h) | h) | h) | h) | h := h
    · exact ⟨4, by decide, by decide, h⟩
    · exact ⟨5, by decide, by decide, h⟩
    · exact ⟨6, by decide, by decide, h⟩
    · exact ⟨7, by decide, by decide, h⟩
    · exact ⟨8, by decide, by decide, h⟩
    · exact ⟨9, by decide, by decide, h⟩
    · exact ⟨10, by decide, by decide, h⟩
    · exact ⟨11, by decide, by decide, h⟩
    · exact ⟨12, by decide, by decide, h⟩
  · rintro ⟨k, hlow, hhigh, rfl⟩
    interval_cases k <;> rfl

theorem journalOk_iff (xbase : Addr) (f : SetupFields) : setupJournalOk xbase f = true ↔ JournalOk xbase f := by
  have harea : boardOffset f.boardCount.toNat = 192 + 48 * f.boardCount.toNat := rfl
  simp only [setupJournalOk, JournalOk, Bool.and_eq_true, Bool.or_eq_true, journalSizeOk_iff, bne_iff_ne, beq_iff_eq,
    decide_eq_true_eq, harea, and_assoc, ← Nat.add_assoc]
  norm_num

theorem flagOf_iff (b : Byte) : (flagOf b).isSome = true ↔ IsFlag b := by
  revert b
  unfold IsFlag
  decide

/-- R161: the reason is that of the first check failed. -/
theorem setupFailure_cases (xbase : Addr) (f : SetupFields) :
    (¬ BoardOk f → setupFailure xbase f = some .setupBoard)
      ∧ (BoardOk f → ¬ JournalOk xbase f → setupFailure xbase f = some .setupJournal)
      ∧ (BoardOk f → JournalOk xbase f → setupTimeoutOk f = false → setupFailure xbase f = some .setupTimeout)
      ∧ (BoardOk f → JournalOk xbase f → setupTimeoutOk f = true → setupHealthOk f = false →
        setupFailure xbase f = some .setupHealth)
      ∧ (BoardOk f → JournalOk xbase f → setupTimeoutOk f = true → setupHealthOk f = true → setupSyncOk f = false →
        setupFailure xbase f = some .setupSync)
      ∧ (BoardOk f → JournalOk xbase f → setupTimeoutOk f = true → setupHealthOk f = true → setupSyncOk f = true →
        setupFailure xbase f = none) := by
  rw [← boardOk_iff, ← journalOk_iff]
  unfold setupFailure
  refine ⟨?_, ?_, ?_, ?_, ?_, ?_⟩ <;> intros <;> simp_all

/-- R161, check 4, of the bytes of the section. -/
def HealthOk (bs : List Byte) : Prop :=
  (∀ o, 20 ≤ o → o ≤ 23 → (byteAt bs o).toNat ≤ 15) ∧ byteAt bs 24 ≠ 0
    ∧ (byteAt bs 25 = 0 ∨ (byteAt bs 24).toNat < (byteAt bs 25).toNat)
    ∧ (byteAt bs 26).toNat < (byteAt bs 24).toNat ∧ IsFlag (byteAt bs 15)

theorem weights_iff (bs : List Byte) : (∀ o, 20 ≤ o → o ≤ 23 → (byteAt bs o).toNat ≤ 15) ↔
    (byteAt bs 20).toNat ≤ 15 ∧ (byteAt bs 21).toNat ≤ 15 ∧ (byteAt bs 22).toNat ≤ 15 ∧ (byteAt bs 23).toNat ≤ 15 := by
  constructor
  · intro h
    exact ⟨h 20 (by decide) (by decide), h 21 (by decide) (by decide), h 22 (by decide) (by decide),
      h 23 (by decide) (by decide)⟩
  · rintro ⟨h20, h21, h22, h23⟩ o hlow hhigh
    interval_cases o
    · exact h20
    · exact h21
    · exact h22
    · exact h23

theorem toNat_eq_zero_iff (b : Byte) : b.toNat = 0 ↔ b = 0 := (BitVec.toNat_eq (x := b) (y := 0)).symm

theorem one_le_toNat_iff (b : Byte) : 1 ≤ b.toNat ↔ b ≠ 0 := by
  rw [Nat.one_le_iff_ne_zero, ne_eq, toNat_eq_zero_iff]

theorem healthOk_iff (bs : List Byte) : setupHealthOk (readSetup bs) = true ↔ HealthOk bs := by
  simp only [setupHealthOk, HealthOk, weights_iff, Bool.and_eq_true, Bool.or_eq_true, flagOf_iff, beq_iff_eq,
    decide_eq_true_iff, toNat_eq_zero_iff, one_le_toNat_iff, and_assoc]
  exact Iff.rfl

theorem syncOk_iff (bs : List Byte) : setupSyncOk (readSetup bs) = true ↔ IsFlag (byteAt bs 13) ∧ IsFlag (byteAt bs 14) := by
  simp only [setupSyncOk, readSetup, Bool.and_eq_true, flagOf_iff]

theorem timeoutOk_iff (bs : List Byte) : setupTimeoutOk (readSetup bs) = true ↔ 64 ≤ (half bs 16).toNat :=
  decide_eq_true_iff

/-- R161: which checks were passed when one is the first to fail. -/
theorem setupFailure_eq_some {xbase : Addr} {f : SetupFields} {reason : CmdReason}
    (h : setupFailure xbase f = some reason) :
    (reason = .setupBoard ∧ setupBoardOk f = false)
      ∨ (reason = .setupJournal ∧ setupBoardOk f = true ∧ setupJournalOk xbase f = false)
      ∨ (reason = .setupTimeout ∧ setupBoardOk f = true ∧ setupJournalOk xbase f = true ∧ setupTimeoutOk f = false)
      ∨ ((reason = .setupHealth ∨ reason = .setupSync) ∧ setupBoardOk f = true ∧ setupJournalOk xbase f = true
        ∧ setupTimeoutOk f = true) := by
  unfold setupFailure at h
  split at h
  · next hb => exact .inl ⟨(Option.some.inj h).symm, by simpa using hb⟩
  · next hb =>
    have hb : setupBoardOk f = true := by simpa using hb
    split at h
    · next hj => exact .inr (.inl ⟨(Option.some.inj h).symm, hb, by simpa using hj⟩)
    · next hj =>
      have hj : setupJournalOk xbase f = true := by simpa using hj
      split at h
      · next ht => exact .inr (.inr (.inl ⟨(Option.some.inj h).symm, hb, hj, by simpa using ht⟩))
      · next ht =>
        have ht : setupTimeoutOk f = true := by simpa using ht
        split at h
        · exact .inr (.inr (.inr ⟨.inl (Option.some.inj h).symm, hb, hj, ht⟩))
        · split at h
          · exact .inr (.inr (.inr ⟨.inr (Option.some.inj h).symm, hb, hj, ht⟩))
          · exact nomatch h

theorem setupFailure_eq_none {xbase : Addr} {f : SetupFields} (h : setupFailure xbase f = none) :
    setupBoardOk f = true ∧ setupJournalOk xbase f = true ∧ setupTimeoutOk f = true := by
  unfold setupFailure at h
  cases hb : setupBoardOk f <;> cases hj : setupJournalOk xbase f <;> cases ht : setupTimeoutOk f <;> simp [hb, hj, ht] at h
  exact ⟨rfl, rfl, rfl⟩

/-! ## What the values that passed set in other blocks (R125, R148) -/

theorem takeSetup_writer (f : SetupFields) (s : State) : (takeSetup f s).writer =
    if setupBoardOk f && setupJournalOk s.control.xbase f then
      { s.writer with base := f.journalBase, size := f.journalSize }
    else s.writer := rfl

theorem takeSetup_timeout (f : SetupFields) (s : State) : (takeSetup f s).port.timeout =
    if setupBoardOk f && setupJournalOk s.control.xbase f && setupTimeoutOk f then f.timeout.toNat
    else s.port.timeout := by
  unfold takeSetup
  dsimp only
  split <;> rfl

theorem takeSetup_busFaults (f : SetupFields) (s : State) : (takeSetup f s).port.busFaults = s.port.busFaults := by
  unfold takeSetup
  dsimp only
  split <;> rfl

theorem takeSetup_writer_of_failure {f : SetupFields} {s : State} {reason : CmdReason}
    (h : setupFailure s.control.xbase f = some reason) : (takeSetup f s).writer =
      if reason = .setupBoard ∨ reason = .setupJournal then s.writer
      else { s.writer with base := f.journalBase, size := f.journalSize } := by
  rw [takeSetup_writer]
  obtain ⟨rfl, hb⟩ | ⟨rfl, hb, hj⟩ | ⟨rfl, hb, hj, -⟩ | ⟨rfl | rfl, hb, hj, -⟩ := setupFailure_eq_some h
    <;> simp [*]

theorem takeSetup_timeout_of_failure {f : SetupFields} {s : State} {reason : CmdReason}
    (h : setupFailure s.control.xbase f = some reason) : (takeSetup f s).port.timeout =
      if reason = .setupHealth ∨ reason = .setupSync then f.timeout.toNat else s.port.timeout := by
  rw [takeSetup_timeout]
  obtain ⟨rfl, hb⟩ | ⟨rfl, hb, hj⟩ | ⟨rfl, hb, hj, ht⟩ | ⟨rfl | rfl, hb, hj, ht⟩ := setupFailure_eq_some h
    <;> simp [*]

/-! ## LOAD's setup read (R161, R163) -/

theorem setupReturns_of_failure {bs : List Byte} {s : State} {reason : CmdReason}
    (h : setupFailure s.control.xbase (readSetup bs) = some reason) :
    setupReturns bs s = loadFails reason .none (takeSetup (readSetup bs) s) := by
  unfold setupReturns
  simp only [h]

theorem setupReturns_of_success {bs : List Byte} {s : State}
    (h : setupFailure s.control.xbase (readSetup bs) = none) :
    setupReturns bs s = requestService .hostControlRead 64 32
      { takeSetup (readSetup bs) s with
        control := { (takeSetup (readSetup bs) s).control with stage := .hostRead } } := by
  unfold setupReturns
  simp only [h]

/-- Settles O46: the setup read ends LOAD with the reason of the first check failed, or LOAD goes on. -/
theorem setupReadEndsLoadOrGoesOn : Obligations.SetupReadEndsLoadOrGoesOn := by
  refine ⟨fun data s reason hc hf => ?failed, fun data s hc hf => ?passed, fun xbase bs => ?checks⟩
  case failed =>
    refine ⟨_, exec_setupReadDone hc data, ?_⟩
    rw [setupReturns_of_failure (s := freePort s) hf]
    have h := settles_atEnd s.port (loadFails reason .none (takeSetup (readSetup data.toList) (freePort s)))
    refine ⟨h.control, ?_, h.loader, h.staging, h.health, h.work, ?_, ?_, ?_, ?_⟩
    · exact h.linesAndPlans
    · exact h.busFaults.trans (takeSetup_busFaults _ (freePort s))
    · exact h.writer.trans (takeSetup_writer_of_failure (s := freePort s) hf)
    · exact h.timeout.trans (takeSetup_timeout_of_failure (s := freePort s) hf)
    · exact h.surroundings
  case passed =>
    obtain ⟨hb, hj, ht⟩ := setupFailure_eq_none hf
    refine ⟨_, exec_setupReadDone hc data, ?_⟩
    rw [setupReturns_of_success (s := freePort s) hf]
    have h := settles_atEnd s.port (requestService .hostControlRead 64 32
      { takeSetup (readSetup data.toList) (freePort s) with
        control := { (takeSetup (readSetup data.toList) (freePort s)).control with stage := .hostRead } })
    refine ⟨h.control, ?_, ?_, ?_, ?_, h.linesAndPlans, h.loader, h.staging, h.health, h.work, h.surroundings⟩
    · refine h.writer.trans ((takeSetup_writer _ (freePort s)).trans (if_pos ?_))
      rw [hb, Bool.true_and]
      exact hj
    · refine h.timeout.trans ((takeSetup_timeout _ (freePort s)).trans (if_pos ?_))
      rw [hb, ht, Bool.true_and, Bool.and_true]
      exact hj
    · exact h.busFaults.trans (takeSetup_busFaults _ (freePort s))
    · exact h.asks .service _ rfl
  case checks =>
    obtain ⟨hboard, hjournal, htimeout, hhealth, hsync, hnone⟩ := setupFailure_cases xbase (readSetup bs)
    rw [← Bool.not_eq_true, timeoutOk_iff] at htimeout
    rw [← Bool.not_eq_true, timeoutOk_iff, healthOk_iff] at hhealth
    rw [← Bool.not_eq_true, timeoutOk_iff, healthOk_iff, syncOk_iff] at hsync
    rw [timeoutOk_iff, healthOk_iff, syncOk_iff] at hnone
    exact ⟨hboard, hjournal, htimeout, hhealth, hsync, hnone⟩

end Sys2Proof.Proofs.SetupReads
end

section
/-! PROOFS. How a load starts (R57 to R59, R71): the first read is requested, or a misaligned address is refused at once; and
LOAD's host-control read (R163). -/

namespace Sys2Proof.Proofs.LoadStarts

open Sys2Proof Sys2Proof.Machine Sys2Proof.Proofs.EngineControl Sys2Proof.Proofs.PortGrants Sys2Proof.Proofs.Moves
open Sys2Proof.Proofs.KeptBounds Sys2Proof.Proofs.LoadSteps Sys2Proof.Proofs.SetupReads

/-! ## Causes -/

theorem raisesOnly_of_cause {c d : Control} (h : d.cause = c.cause) (hm : d.mask = c.mask) (hx : d.xbase = c.xbase)
    (raised : List Cause) : c.RaisesOnly d raised :=
  ⟨fun k _ => by rw [Control.has, h, Control.has], hm, hx⟩

theorem raisesOnly_rfl (c : Control) (raised : List Cause) : c.RaisesOnly c raised := raisesOnly_of_cause rfl rfl rfl raised

theorem raisesOnly_raise {c d : Control} {raised : List Cause} (h : c.RaisesOnly d raised) {k : Cause} (hk : k ∈ raised) :
    c.RaisesOnly (d.raise k) raised := by
  obtain ⟨hcause, hmask, hxbase⟩ := h
  refine ⟨fun j hj => ?_, hmask, hxbase⟩
  have hne : j ≠ k := fun e => hj (e ▸ hk)
  rw [raise_has, decide_eq_false hne, Bool.or_false]
  exact hcause j hj

theorem raisesOnly_raiseIf {c d : Control} {raised : List Cause} (h : c.RaisesOnly d raised) {k : Cause} (hk : k ∈ raised)
    (b : Bool) : c.RaisesOnly (d.raiseIf b k) raised := by
  cases b with
  | false => exact h
  | true => exact raisesOnly_raise h hk

theorem raisesOnly_loadFails {c : Control} {s : State} {raised : List Cause} (h : c.RaisesOnly s.control raised)
    (hk : .command ∈ raised) (reason : CmdReason) (detail : PlanDetail) :
    c.RaisesOnly (loadFails reason detail s).control raised :=
  raisesOnly_raise h hk

/-! ## The reads of a load (R59) -/

theorem misaligned_iff (a : Addr) : misaligned a = true ↔ a.toNat % 8 ≠ 0 := by
  simp [misaligned]

/-- R59: with no read of the Loader at the port the next one is requested. -/
theorem nextPlanRead_of_free {s : State} (h : s.loader.readOut = .none) : nextPlanRead s =
    { s with
      loader := { s.loader with readOut := .currentLoad }
      port := s.port.request (planRequester s)
        { kind := .planRead, address := s.loader.address + BitVec.ofNat 64 s.loader.position,
          length := s.loader.readLength } } := if_pos h

/-- R63: while one is there the next one waits. -/
theorem nextPlanRead_of_busy {s : State} (h : s.loader.readOut ≠ .none) : nextPlanRead s = s := if_neg h

theorem firstRead_of_aligned {s : State} (h : s.loader.address.toNat % 8 = 0) : firstRead s = nextPlanRead s :=
  if_neg fun hm => (misaligned_iff _).mp hm h

theorem firstRead_of_misaligned {s : State} (h : s.loader.address.toNat % 8 ≠ 0) :
    firstRead s = planRejected .badFormat s := if_pos ((misaligned_iff _).mpr h)

theorem request_timeout (p : Port) (q : Requester) (w : Waiting) : (p.request q w).timeout = p.timeout := by
  cases q <;> rfl

theorem request_busFaults (p : Port) (q : Requester) (w : Waiting) : (p.request q w).busFaults = p.busFaults := by
  cases q <;> rfl

theorem request_waiting (p : Port) (q : Requester) (w : Waiting) : (p.request q w).waiting q = some w := by
  cases q <;> rfl

theorem nextPlanRead_registers (s : State) : (nextPlanRead s).port.timeout = s.port.timeout
    ∧ (nextPlanRead s).port.busFaults = s.port.busFaults := by
  unfold nextPlanRead
  split
  · exact ⟨request_timeout _ _ _, request_busFaults _ _ _⟩
  · exact ⟨rfl, rfl⟩

theorem firstRead_registers (s : State) : (firstRead s).port.timeout = s.port.timeout
    ∧ (firstRead s).port.busFaults = s.port.busFaults := by
  unfold firstRead
  split
  · rw [planRejected_port]
    exact ⟨rfl, rfl⟩
  · exact nextPlanRead_registers s

/-! ## A plan that is rejected (R61, R71) -/

/-- R61: a rejection ends the load in progress. -/
def afterRejection (reason : PlanDetail) (s : State) : State :=
  { s with
    store := s.store.dropFilling
    loader := { (s.loader.endLoad.outcome s.loader.generation .rejected reason) with lastRefused := s.loader.generation }
    control := s.control.raise .plan }

theorem planRejected_of_loading {s : State} (h : s.control.engine = .loading) (reason : PlanDetail) :
    planRejected reason s = loadFails .planRejected reason (afterRejection reason s) :=
  if_pos (by simp [State.initialLoad, h])

theorem planRejected_of_run {s : State} (h : s.control.engine ≠ .loading) (reason : PlanDetail) :
    planRejected reason s = afterRejection reason s := if_neg (by simp [State.initialLoad, h])

/-! ## The initial load (R71, R163) -/

/-- R71: the initial load has its bank and its items, and no read yet. -/
def beforeFirstRead (a : Addr) (g : Word) (s : State) : State :=
  { s with
    store := s.store.startFilling g
    loader := { s.loader.beginLoad g a with status := { generation := g, status := .filling, detail := .none } } }

theorem startInitialLoad_of_aligned {a : Addr} (h : a.toNat % 8 = 0) (g : Word) (s : State) :
    startInitialLoad a g s = nextPlanRead (beforeFirstRead a g s) := firstRead_of_aligned h

theorem startInitialLoad_of_misaligned {a : Addr} (h : a.toNat % 8 ≠ 0) (g : Word) (s : State) :
    startInitialLoad a g s = planRejected .badFormat (beforeFirstRead a g s) := firstRead_of_misaligned h

theorem startFilling_of_not_current {st : Store} (h : st.bank0.state ≠ .current) (g : Word) :
    st.startFilling g = { st with bank0 := { state := .filling, generation := g, content := [] } } := if_neg h

theorem dropFilling_bank1 {st : Store} (h : st.bank1.state ≠ .filling) : st.dropFilling.bank1 = st.bank1 := if_neg h

theorem exec_loadHostControlReadDone {s : State} (h : s.Carries .hostControlRead) (data : Vector Byte 32) :
    exec (.loadHostControlReadDone data) s =
      .next (grantAtEnd s.port (pollWriter (loadHostControlReturns data.toList (freePort s)))) :=
  congrArg Host.Outcome.next (exec_of_carries h fun x hk => by rw [if_pos hk])

theorem loadHostControlReturns_of_none {bs : List Byte} (h : word bs 8 = 0) (s : State) :
    loadHostControlReturns bs s = loadFails .noPlan .none (takeLoadHostControl (readHostControl bs) s) := if_pos h

/-- R163: the values read are taken, and LOAD goes on to its plan. -/
def atPlanStage (bs : List Byte) (s : State) : State :=
  { takeLoadHostControl (readHostControl bs) s with control := { s.control with stage := .plan } }

/-- R163: the initial load as it starts from those values. -/
abbrev loadFromHostControl (bs : List Byte) (s : State) : State :=
  beforeFirstRead (quad bs 0) (word bs 8) (atPlanStage bs s)

/-- R163: what LOAD's host-control read leads to. -/
theorem loadHostControlReturns_cases (bs : List Byte) (s : State) :
    (word bs 8 = 0 ∧ loadHostControlReturns bs s = loadFails .noPlan .none (takeLoadHostControl (readHostControl bs) s))
      ∨ (word bs 8 ≠ 0 ∧ (quad bs 0).toNat % 8 = 0
        ∧ loadHostControlReturns bs s = nextPlanRead (loadFromHostControl bs s))
      ∨ (word bs 8 ≠ 0 ∧ (quad bs 0).toNat % 8 ≠ 0
        ∧ loadHostControlReturns bs s = planRejected .badFormat (loadFromHostControl bs s)) := by
  by_cases hg : word bs 8 = 0
  · exact .inl ⟨hg, if_pos hg⟩
  · have hplan : loadHostControlReturns bs s = startInitialLoad (quad bs 0) (word bs 8) (atPlanStage bs s) := if_neg hg
    by_cases ha : (quad bs 0).toNat % 8 = 0
    · exact .inr (.inl ⟨hg, ha, hplan.trans (startInitialLoad_of_aligned ha _ _)⟩)
    · exact .inr (.inr ⟨hg, ha, hplan.trans (startInitialLoad_of_misaligned ha _ _)⟩)

/-- What LOAD's host-control read leaves in every case. -/
structure HostControlKeeps (s v : State) : Prop where
  timer : v.timer = s.timer
  cells : v.cells = s.cells
  static : v.static = s.static
  queue : v.queue = s.queue
  staging : v.staging = s.staging
  health : v.health = s.health
  setup : v.control.setup = s.control.setup
  bank1 : s.store.bank1.state ≠ .filling → v.store.bank1 = s.store.bank1
  causes : s.control.RaisesOnly v.control [.command, .plan]
  timeout : v.port.timeout = s.port.timeout
  busFaults : v.port.busFaults = s.port.busFaults
  surroundings : s.SameSurroundings v

theorem loadHostControlReturns_keeps {s : State} (hloading : s.control.engine = .loading)
    (hbank : s.store.bank0.state ≠ .current) (bs : List Byte) : HostControlKeeps s (loadHostControlReturns bs s) := by
  have hstore : (loadFromHostControl bs s).store = s.store.startFilling (word bs 8) := rfl
  rw [startFilling_of_not_current hbank] at hstore
  obtain ⟨-, e⟩ | ⟨-, -, e⟩ | ⟨-, -, e⟩ := loadHostControlReturns_cases bs s <;> rw [e]
  case inl =>
    exact ⟨rfl, rfl, rfl, rfl, rfl, rfl, rfl, fun _ => rfl,
      raisesOnly_loadFails (raisesOnly_rfl _ _) (by decide) _ _, rfl, rfl, rfl, rfl, rfl⟩
  case inr.inl =>
    have hcontrol := nextPlanRead_control (loadFromHostControl bs s)
    obtain ⟨htimeout, hfaults⟩ := nextPlanRead_registers (loadFromHostControl bs s)
    exact ⟨nextPlanRead_timer _, nextPlanRead_cells _, nextPlanRead_static _, nextPlanRead_queue _,
      nextPlanRead_staging _, nextPlanRead_health _, (congrArg Control.setup hcontrol :),
      fun _ => (congrArg Store.bank1 ((nextPlanRead_store _).trans hstore) :),
      by rw [hcontrol]; exact raisesOnly_of_cause rfl rfl rfl _, htimeout, hfaults,
      nextPlanRead_now _, nextPlanRead_outside _, nextPlanRead_pending _⟩
  case inr.inr =>
    rw [planRejected_of_loading (s := loadFromHostControl bs s) hloading]
    refine ⟨rfl, rfl, rfl, rfl, rfl, rfl, rfl, fun hb => ?_, ?_, rfl, rfl, rfl, rfl, rfl⟩
    · exact (dropFilling_bank1 (st := (loadFromHostControl bs s).store) (by rw [hstore]; exact hb)).trans (by rw [hstore])
    · exact raisesOnly_loadFails (s := afterRejection .badFormat (loadFromHostControl bs s))
        (raisesOnly_raise (raisesOnly_of_cause rfl rfl rfl _) (by decide)) (by decide) _ _

/-- Settles O47: LOAD's host-control read ends LOAD with NO_PLAN, starts the initial load, or refuses its address. -/
theorem loadHostControlStartsTheInitialLoad : Obligations.LoadHostControlStartsTheInitialLoad := by
  intro data s hc hread hloading hbank g a
  refine ⟨_, exec_loadHostControlReadDone hc data, ?_⟩
  have h := settles_atEnd s.port (loadHostControlReturns data.toList (freePort s))
  generalize grantAtEnd s.port (pollWriter (loadHostControlReturns data.toList (freePort s))) = t at h
  have hk := loadHostControlReturns_keeps (s := freePort s) hloading hbank data.toList
  have hstore : (loadFromHostControl data.toList (freePort s)).store = s.store.startFilling g := rfl
  rw [startFilling_of_not_current hbank] at hstore
  refine ⟨?hostControl, h.writer.trans (loadHostControlReturns_writer _ _), fun hg => ?none, fun hg ha => ?aligned,
    fun hg ha => ?misaligned, h.timer.trans hk.timer, h.cells.trans hk.cells, h.static.trans hk.static,
    h.queue.trans hk.queue, h.staging.trans hk.staging, h.health.trans hk.health,
    (congrArg Control.setup h.control).trans hk.setup, fun hb => (congrArg Store.bank1 h.store).trans (hk.bank1 hb),
    h.control ▸ hk.causes, ⟨h.timeout.trans hk.timeout, h.busFaults.trans hk.busFaults⟩,
    h.now.trans hk.surroundings.1, h.outside.trans hk.surroundings.2.1, h.pending.trans hk.surroundings.2.2⟩
  case hostControl =>
    obtain ⟨_, _, _, _, _, _, _, _, hhost, _⟩ := h.work
    rw [hhost, loadHostControlReturns_service]
    rfl
  all_goals obtain ⟨hg', e⟩ | ⟨hg', ha', e⟩ | ⟨hg', ha', e⟩ := loadHostControlReturns_cases data.toList (freePort s)
  all_goals rw [e] at h
  case none.inl =>
    exact ⟨congrArg Control.engine h.control, congrArg Control.pending h.control, h.loader, h.store,
      congrArg Control.readback h.control⟩
  case aligned.inr.inl =>
    rw [nextPlanRead_of_free (s := loadFromHostControl data.toList (freePort s)) hread] at h
    have hrequester : planRequester (loadFromHostControl data.toList (freePort s)) = .service := if_pos hloading
    have hbanks := h.store.trans hstore
    rw [hrequester] at h
    exact ⟨h.control, (congrArg Store.bank0 hbanks :), (congrArg Store.bank1 hbanks :), congrArg Loader.filling h.loader,
      congrArg Loader.generation h.loader, congrArg Loader.address h.loader, congrArg Loader.position h.loader,
      congrArg Loader.total h.loader, congrArg Loader.crc h.loader, congrArg Loader.status h.loader,
      h.asks .service _ rfl⟩
  case misaligned.inr.inr =>
    rw [planRejected_of_loading (s := loadFromHostControl data.toList (freePort s)) hloading] at h
    have hdropped : t.store = (s.store.startFilling g).dropFilling := h.store
    rw [startFilling_of_not_current hbank] at hdropped
    exact ⟨congrArg Control.engine h.control, congrArg Control.pending h.control, congrArg Control.readback h.control,
      by rw [h.control]; exact (readbackIs_has _ _ _ _ _ _).trans (by simp [afterRejection]), (congrArg Store.bank0 hdropped :),
      congrArg Loader.filling h.loader, congrArg Loader.status h.loader, congrArg Loader.lastRefused h.loader⟩
  all_goals contradiction

end Sys2Proof.Proofs.LoadStarts
end

section
/-! PROOFS. How the Service Unit goes on (R88, R126 to R133, R136): the words of the statements, from the operation that ended
and the port's grant. -/

namespace Sys2Proof.Proofs.ServiceTasks

open Sys2Proof Sys2Proof.Machine Sys2Proof.Proofs.PortGrants Sys2Proof.Proofs.Moves Sys2Proof.Proofs.ServiceWork
open Sys2Proof.Proofs.SetupReads Sys2Proof.Proofs.LoadStarts Sys2Proof.Proofs.ServiceWindow

/-! ## What a task is judged by -/

/-- The same task is in hand in two states: what the Service Unit does next depends on the step and on nothing else of it. -/
structure SameTask (s u : State) : Prop where
  activity : u.service.activity = s.service.activity
  boardPos : u.service.boardPos = s.service.boardPos
  closingOwed : u.service.closingOwed = s.service.closingOwed
  owed : u.service.owed = s.service.owed
  xbase : u.control.xbase = s.control.xbase
  boardCount : u.control.setup.boardCount = s.control.setup.boardCount
  current : u.timer.current = s.timer.current

/-- What a settled state shows of the Service Unit's work. -/
structure WorkShown (v w : Service) : Prop where
  activity : w.activity = v.activity
  step : w.step = v.step
  postList : w.postList = v.postList
  boardPos : w.boardPos = v.boardPos
  backlog : w.backlog = v.backlog
  junk : w.junk = v.junk
  releaseBad : w.releaseBad = v.releaseBad
  noted : w.noted = v.noted
  hostControl : w.hostControl = v.hostControl
  owed : w.owed = v.owed
  passFrame : w.passFrame = v.passFrame
  closingOwed : w.closingOwed = v.closingOwed

theorem workShown {v w : Service} (h : v.SameWork w) : WorkShown v w := by
  obtain ⟨h1, h2, h3, h4, h5, h6, h7, h8, h9, h10, h11, h12⟩ := h
  exact ⟨h1, h2, h3, h4, h5, h6, h7, h8, h9, h10, h11, h12⟩

theorem WorkShown.flags {v w : Service} (h : WorkShown v w) : v.SameFlags w :=
  ⟨h.backlog, h.junk, h.releaseBad, h.noted⟩

theorem sameFlags_trans {u v w : Service} (h : u.SameFlags v) (k : v.SameFlags w) : u.SameFlags w := by
  obtain ⟨h1, h2, h3, h4⟩ := h
  obtain ⟨k1, k2, k3, k4⟩ := k
  exact ⟨k1.trans h1, k2.trans h2, k3.trans h3, k4.trans h4⟩

/-! ## Something ends (R126, R133, R136) -/

theorem serviceFree_of_closing {u : State} (h : u.service.closingOwed = true) : serviceFree u =
    { u with service := { u.service with activity := .closingWait, unit := .none, closingOwed := false } } := by
  simp [serviceFree, h]

theorem serviceFree_of_owed {u : State} (h : u.service.closingOwed = false) (k : u.service.owed = true) :
    serviceFree u = startPass { u with service := { u.service with activity := .none, unit := .none } } := by
  simp [serviceFree, h, k]

theorem serviceFree_of_idle {u : State} (h : u.service.closingOwed = false) (k : u.service.owed = false) :
    serviceFree u = { u with service := { u.service with activity := .none, unit := .none } } := by
  simp [serviceFree, h, k]

theorem serviceFree_hostControl (u : State) : (serviceFree u).service.hostControl = u.service.hostControl := by
  unfold serviceFree
  dsimp only
  split
  · rfl
  · split <;> rfl

/-- R126, R133, R136. -/
theorem unitFree_serviceFree {s u t : State} (h : Settles (serviceFree u) t) (k : SameTask s u) : s.UnitFree t where
  free hc ho := by
    rw [serviceFree_of_idle (k.closingOwed.trans hc) (k.owed.trans ho)] at h
    exact (workShown h.work).activity
  closing hc := by
    rw [serviceFree_of_closing (k.closingOwed.trans hc)] at h
    exact ⟨(workShown h.work).activity, (workShown h.work).closingOwed⟩
  owed hc ho := by
    rw [serviceFree_of_owed (k.closingOwed.trans hc) (k.owed.trans ho)] at h
    have hw := workShown h.work
    have hasks := h.asks .service _ rfl
    refine ⟨hw.activity, hw.step, ?_, hw.flags, hw.boardPos, hw.postList, hw.owed, hw.passFrame.trans k.current⟩
    rw [← k.xbase]
    exact hasks

/-! ## The scan (R129) -/

theorem scanNext_of_more {u : State} (h : u.service.boardPos < u.control.setup.boardCount) : scanNext u =
    requestService (.boardRead u.service.boardPos) (boardOffset u.service.boardPos) 48
      { u with service := { u.service with unit := .none } } := if_pos h

theorem scanNext_of_end {u : State} (h : u.control.setup.boardCount ≤ u.service.boardPos) : scanNext u = beginStatus u :=
  if_neg (Nat.not_lt.mpr h)

theorem scanNext_service (u : State) : (scanNext u).service.activity = u.service.activity
    ∧ (scanNext u).service.boardPos = u.service.boardPos ∧ (scanNext u).service.postList = u.service.postList
    ∧ u.service.SameFlags (scanNext u).service ∧ (scanNext u).service.hostControl = u.service.hostControl := by
  unfold scanNext
  split <;> exact ⟨rfl, rfl, rfl, ⟨rfl, rfl, rfl, rfl⟩, rfl⟩

/-! ## Posting (R88, R128) -/

/-- R88: the entries of the list that the queue no longer holds are passed over. -/
theorem postFrom_of_gone {gone : List Nat} {u : State} (h : ∀ j ∈ gone, u.queue.find j = none) (list : List Nat) :
    postFrom (gone ++ list) u = postFrom list u := by
  induction gone with
  | nil => rfl
  | cons j gone ih =>
    rw [List.cons_append, postFrom, h j List.mem_cons_self]
    exact ih fun i hi => h i (List.mem_cons_of_mem _ hi)

theorem postFrom_of_held {i : Nat} {rest : List Nat} {u : State} {e : Entry} (h : u.queue.find i = some e) :
    postFrom (i :: rest) u = requestResult i e.result e.ending.word
      { u with service := { u.service with postList := i :: rest, unit := .none } } := by
  rw [postFrom, h]

theorem postFrom_of_none {list : List Nat} {u : State} (h : ∀ j ∈ list, u.queue.find j = none) :
    postFrom list u = beginScan u := by
  have hgone := postFrom_of_gone h []
  rwa [List.append_nil] at hgone

/-- Step B ends, or posts the first entry of the list that the queue holds. -/
theorem held_cases (q : Queue) (list : List Nat) : (∀ j ∈ list, q.find j = none) ∨
    ∃ gone i rest e, list = gone ++ i :: rest ∧ (∀ j ∈ gone, q.find j = none) ∧ q.find i = some e := by
  induction list with
  | nil => exact .inl (fun _ hj => nomatch hj)
  | cons i list ih =>
    cases hi : q.find i with
    | some e => exact .inr ⟨[], i, list, e, rfl, (fun _ hj => nomatch hj), hi⟩
    | none =>
      obtain h | ⟨gone, k, rest, e, rfl, h, he⟩ := ih
      · exact .inl (List.forall_mem_cons.mpr ⟨hi, h⟩)
      · exact .inr ⟨i :: gone, k, rest, e, rfl, List.forall_mem_cons.mpr ⟨hi, h⟩, he⟩

/-- R88, R128, R129. -/
theorem postingGoesOn_postFrom {s u t : State} {list : List Nat} (h : Settles (postFrom list u) t) (k : SameTask s u)
    (hstep : u.service.step = .b) : s.PostingGoesOn t u.queue list where
  post gone i rest e hl hgone he := by
    rw [hl, postFrom_of_gone hgone, postFrom_of_held he] at h
    have hw := workShown h.work
    have hasks := h.asks .service _ rfl
    refine ⟨hw.activity.trans k.activity, hw.step.trans hstep, hw.postList, ?_⟩
    rw [← k.xbase]
    exact hasks
  scan hgone hmore := by
    rw [postFrom_of_none hgone, beginScan,
      scanNext_of_more (u := { u with service := { u.service with step := .c, postList := [], unit := .none } })
        (by rw [k.boardCount]; exact k.boardPos ▸ hmore)] at h
    have hw := workShown h.work
    have hasks := h.asks .service _ rfl
    refine ⟨hw.activity.trans k.activity, hw.step, hw.postList, ?_⟩
    rw [← k.xbase, ← k.boardPos]
    exact hasks
  status hgone hend := by
    rw [postFrom_of_none hgone, beginScan,
      scanNext_of_end (u := { u with service := { u.service with step := .c, postList := [], unit := .none } })
        (by rw [k.boardCount]; exact k.boardPos ▸ hend)] at h
    have hw := workShown h.work
    have hasks := h.asks .service _ rfl
    refine ⟨hw.activity.trans k.activity, hw.step, hw.postList, ?_⟩
    rw [← k.xbase]
    exact hasks

theorem postingGoesOn_step_ne_a {s t : State} {q : Queue} {list : List Nat} (h : s.PostingGoesOn t q list) :
    t.service.step ≠ .a := by
  obtain hgone | ⟨gone, i, rest, e, hl, hgone, he⟩ := held_cases q list
  · by_cases hmore : s.service.boardPos < s.control.setup.boardCount
    · rw [(h.scan hgone hmore).2.1]; exact nofun
    · rw [(h.status hgone (Nat.not_lt.mp hmore)).2.1]; exact nofun
  · rw [(h.post gone i rest e hl hgone he).2.1]; exact nofun

/-- Step B leaves the flags of the pass. -/
theorem postFrom_flags (list : List Nat) (u : State) : u.service.SameFlags (postFrom list u).service
    ∧ (postFrom list u).service.hostControl = u.service.hostControl := by
  obtain hgone | ⟨gone, i, rest, e, rfl, hgone, he⟩ := held_cases u.queue list
  · rw [postFrom_of_none hgone]
    obtain ⟨-, -, -, hflags, hhost⟩ :=
      scanNext_service { u with service := { u.service with step := .c, postList := [], unit := .none } }
    exact ⟨hflags, hhost⟩
  · rw [postFrom_of_gone hgone, postFrom_of_held he]
    exact ⟨⟨rfl, rfl, rfl, rfl⟩, rfl⟩

/-! ## A unit ends (R129, R133) -/

theorem unitEnds_of_post {u : State} (h : u.service.activity = .pass) (k : u.service.step = .b) :
    unitEnds u = postFrom u.service.postList.tail u := by simp [unitEnds, h, k]

theorem unitEnds_of_scan {u : State} (h : u.service.activity = .pass) (k : u.service.step = .c) :
    unitEnds u = scanNext { u with service := { u.service with boardPos := u.service.boardPos + 1 } } := by
  simp [unitEnds, h, k]

theorem unitEnds_of_tail {u : State} (h : u.service.activity = .tail) : unitEnds u = serviceFree u := by
  simp [unitEnds, h]

/-- R129, R133. -/
theorem scanGoesOn_unitEnds {s u t : State} (h : Settles (unitEnds u) t) (k : SameTask s u)
    (hstep : u.service.step = s.service.step) : s.ScanGoesOn t where
  position ha hc := by
    rw [unitEnds_of_scan (k.activity.trans ha) (hstep.trans hc)] at h
    obtain ⟨hact, hpos, -⟩ := scanNext_service { u with service := { u.service with boardPos := u.service.boardPos + 1 } }
    have hw := workShown h.work
    exact ⟨hw.activity.trans (hact.trans (k.activity.trans ha)),
      hw.boardPos.trans (hpos.trans (congrArg (· + 1) k.boardPos))⟩
  next ha hc hmore := by
    rw [unitEnds_of_scan (k.activity.trans ha) (hstep.trans hc),
      scanNext_of_more (u := { u with service := { u.service with boardPos := u.service.boardPos + 1 } })
        (by rw [k.boardCount]; exact k.boardPos ▸ hmore)] at h
    have hasks := h.asks .service _ rfl
    refine ⟨(workShown h.work).step.trans (hstep.trans hc), ?_⟩
    rw [← k.xbase, ← k.boardPos]
    exact hasks
  last ha hc hend := by
    rw [unitEnds_of_scan (k.activity.trans ha) (hstep.trans hc),
      scanNext_of_end (u := { u with service := { u.service with boardPos := u.service.boardPos + 1 } })
        (by rw [k.boardCount]; exact k.boardPos ▸ hend)] at h
    have hasks := h.asks .service _ rfl
    refine ⟨(workShown h.work).step, ?_⟩
    rw [← k.xbase]
    exact hasks
  tail ha := by
    rw [unitEnds_of_tail (k.activity.trans ha)] at h
    exact unitFree_serviceFree h k

/-- R88, R128: step B goes on with the rest of its list. -/
theorem postingGoesOn_unitEnds {s u t : State} (h : Settles (unitEnds u) t) (k : SameTask s u)
    (ha : s.service.activity = .pass) (hb : u.service.step = .b) :
    s.PostingGoesOn t u.queue u.service.postList.tail := by
  rw [unitEnds_of_post (k.activity.trans ha) hb] at h
  exact postingGoesOn_postFrom h k hb

end Sys2Proof.Proofs.ServiceTasks
end

section
/-! PROOFS. The hand-over of a plan (R57 to R59, R61, R63, R64, R69) and step A of a pass (R127). -/

namespace Sys2Proof.Proofs.HandOvers

open Sys2Proof Sys2Proof.Machine Sys2Proof.Proofs.EngineControl Sys2Proof.Proofs.PortGrants Sys2Proof.Proofs.Moves
open Sys2Proof.Proofs.Bounds Sys2Proof.Proofs.ServiceWork Sys2Proof.Proofs.KeptBounds Sys2Proof.Proofs.PortContents Sys2Proof.Proofs.LoadSteps
open Sys2Proof.Proofs.SetupReads Sys2Proof.Proofs.LoadStarts Sys2Proof.Proofs.ServiceTasks

/-! ## What the hand-over does -/

theorem eligible_iff (s : State) (g : Word) : eligible s g = true ↔ s.Eligible g := by
  simp [eligible, State.Eligible, and_assoc]

/-- R57: a plan is handed over in RUNNING and HELD. -/
def InRun (s : State) : Prop := s.control.engine = .running ∨ s.control.engine = .held

theorem InRun.not_loading {s : State} (h : InRun s) : s.control.engine ≠ .loading := by
  obtain h | h := h <;> simp [h]

theorem handOverPlan_of_ignored {s : State} {a : Addr} {g : Word}
    (h : (s.control.engine ≠ .running ∧ s.control.engine ≠ .held) ∨ ¬ s.Eligible g
      ∨ (s.loader.filling = true ∧ g = s.loader.generation)
      ∨ (s.loader.filling = false ∧ s.store.pendingGeneration ≠ none)) : handOverPlan a g s = s := by
  unfold handOverPlan
  obtain ⟨hr, hh⟩ | h | ⟨hf, hg⟩ | ⟨hf, hp⟩ := h
  · exact if_neg fun hn => hn.1.elim hr hh
  · exact if_neg fun hn => h ((eligible_iff s g).mp hn.2)
  · simp [hf, hg]
  · simp [hf, hp]

theorem handOverPlan_of_free {s : State} {g : Word} (he : InRun s) (h : s.Eligible g) (hf : s.loader.filling = false)
    (hp : s.store.pendingGeneration = none) (a : Addr) : handOverPlan a g s = startLoad a g s := by
  unfold handOverPlan
  rw [if_pos ⟨he, (eligible_iff s g).mpr h⟩]
  simp [hf, hp]

theorem handOverPlan_of_filling {s : State} {g : Word} (he : InRun s) (h : s.Eligible g) (hf : s.loader.filling = true)
    (hg : g ≠ s.loader.generation) (a : Addr) : handOverPlan a g s = overtake a g s := by
  unfold handOverPlan
  rw [if_pos ⟨he, (eligible_iff s g).mpr h⟩]
  simp [hf, hg]

/-- R58: a load has its bank and its items, and no read yet. -/
def loadStarted (a : Addr) (g : Word) (s : State) : State :=
  { s with
    store := s.store.startFilling g
    loader := (s.loader.showFilling g).beginLoad g a }

/-- R63: a load in progress is overtaken, and the new one has no read yet. -/
def loadOvertaken (a : Addr) (g : Word) (s : State) : State :=
  { s with
    store := s.store.onFilling fun b => { b with generation := g, content := [] }
    loader :=
      { (s.loader.outcome s.loader.generation .superseded .none).beginLoad g a with
        readOut := s.loader.readOut.giveUp }
    control := s.control.raise .plan }

theorem startLoad_of_aligned {a : Addr} (h : a.toNat % 8 = 0) (g : Word) (s : State) :
    startLoad a g s = nextPlanRead (loadStarted a g s) := firstRead_of_aligned h

theorem startLoad_of_misaligned {a : Addr} (h : a.toNat % 8 ≠ 0) {s : State} (he : InRun s) (g : Word) :
    startLoad a g s = afterRejection .badFormat (loadStarted a g s) :=
  (firstRead_of_misaligned h).trans (planRejected_of_run (s := loadStarted a g s) he.not_loading _)

theorem overtake_of_aligned {a : Addr} (h : a.toNat % 8 = 0) (g : Word) (s : State) :
    overtake a g s = nextPlanRead (loadOvertaken a g s) := firstRead_of_aligned h

theorem overtake_of_misaligned {a : Addr} (h : a.toNat % 8 ≠ 0) {s : State} (he : InRun s) (g : Word) :
    overtake a g s = afterRejection .badFormat (loadOvertaken a g s) :=
  (firstRead_of_misaligned h).trans (planRejected_of_run (s := loadOvertaken a g s) he.not_loading _)

/-! ## Its parts -/

theorem showFilling_eq (l : Loader) (g : Word) : l.showFilling g =
    { l with
      status := if l.status.status.isOutcome = true ∧ l.posted = false then l.status
        else { generation := g, status := .filling, detail := .none } } := by
  unfold Loader.showFilling
  split <;> rfl

/-- R63: what stands of the reads once the next one has been requested or waits. -/
theorem giveUp_then_read (r : ReadOutstanding) :
    (if r = .none then ReadOutstanding.currentLoad else r.giveUp) = if r = .none then .currentLoad else .stale := by
  cases r <;> rfl

theorem giveUp_eq (r : ReadOutstanding) : r.giveUp = if r = .none then .none else .stale := by cases r <;> rfl

theorem giveUp_eq_none {r : ReadOutstanding} : r.giveUp = .none ↔ r = .none := by cases r <;> decide

theorem nextPlanRead_loader (s : State) : (nextPlanRead s).loader =
    { s.loader with readOut := if s.loader.readOut = .none then .currentLoad else s.loader.readOut } := by
  unfold nextPlanRead
  split <;> rfl

theorem planRequester_of_run {s : State} (h : s.control.engine ≠ .loading) : planRequester s = .loader := if_neg h

/-- R59: in a run the Loader asks for its reads itself. -/
theorem nextPlanRead_asks {s t : State} (he : s.control.engine ≠ .loading) (hr : s.loader.readOut = .none)
    (h : ∀ w, (nextPlanRead s).port.loader = some w → t.Asks .loader w.kind w.address w.length) :
    t.Asks .loader .planRead (s.loader.address + BitVec.ofNat 64 s.loader.position) s.loader.readLength := by
  rw [nextPlanRead_of_free hr, planRequester_of_run he] at h
  exact h _ rfl

theorem raise_plan_twice (c : Control) :
    (c.raise .plan).raise .plan = { c with cause := c.cause ||| 0b000100#6 } := by
  unfold Control.raise
  congr 1
  rw [BitVec.or_assoc, BitVec.or_self]
  rfl

theorem onFilling_dropFilling (st : Store) (g : Word) :
    (st.onFilling fun b => { b with generation := g, content := [] }).dropFilling = st.dropFilling := by
  unfold Store.dropFilling Store.onFilling
  dsimp only
  congr 1
  · split <;> simp_all
  · split <;> simp_all

/-- R63: the bank of the load overtaken is filled anew. -/
theorem onFilling_restart (st : Store) (g : Word) : (st.onFilling fun b => { b with generation := g, content := [] }) =
    { st with
      bank0 := if st.bank0.state = .filling then { state := .filling, generation := g, content := [] } else st.bank0
      bank1 := if st.bank1.state = .filling then { state := .filling, generation := g, content := [] } else st.bank1 } := by
  have hbank : ∀ b : Bank, (if b.state = .filling then { b with generation := g, content := [] } else b) =
      if b.state = .filling then { state := .filling, generation := g, content := [] } else b := by
    intro b
    split
    · next h => rw [h]
    · rfl
  unfold Store.onFilling
  rw [hbank, hbank]

/-! ## The statement -/

/-- R57 to R64: what the blocks show after a hand-over, when nothing since has changed them. -/
theorem planHandedOver_of {s t : State} {a : Addr} {g : Word} (hl : t.loader = (handOverPlan a g s).loader)
    (hst : t.store = (handOverPlan a g s).store) (hc : t.control = (handOverPlan a g s).control)
    (hasks : ∀ w, (handOverPlan a g s).port.loader = some w → t.Asks .loader w.kind w.address w.length) :
    s.PlanHandedOver t a g where
  ignored h := by
    rw [handOverPlan_of_ignored h] at hl hst hc
    exact ⟨hl, hst, hc⟩
  started he h hf hp ha := by
    rw [handOverPlan_of_free he h hf hp, startLoad_of_aligned ha] at hl hst hc hasks
    refine ⟨?_, hst.trans (nextPlanRead_store _), hc.trans (nextPlanRead_control _), fun hr => ?_⟩
    · rw [hl, nextPlanRead_loader, loadStarted, showFilling_eq]
      rfl
    · exact nextPlanRead_asks (s := loadStarted a g s) (InRun.not_loading he)
        ((SoundBanks.showFilling_readOut s.loader g).trans hr) hasks
  startedMisaligned he h hf hp ha := by
    rw [handOverPlan_of_free he h hf hp, startLoad_of_misaligned ha he] at hl hst hc
    refine ⟨?_, fun hb => ?_, fun hb => ?_, fun hb hb1 => ?_, hc⟩
    · rw [hl, afterRejection, loadStarted, showFilling_eq]
      simp [Loader.beginLoad, Loader.endLoad, Loader.outcome, hf]
    · rw [hst, afterRejection, loadStarted, Store.startFilling, if_pos hb]
      simp [Store.dropFilling, Store.onFilling, hb]
    · rw [hst, afterRejection, loadStarted, Store.startFilling, if_neg hb]
      simp [Store.dropFilling, Store.onFilling]
    · rw [hst, afterRejection, loadStarted, Store.startFilling, if_neg hb]
      simp [Store.dropFilling, Store.onFilling, hb1]
  overtaken he h hf hg ha := by
    rw [handOverPlan_of_filling he h hf hg, overtake_of_aligned ha] at hl hst hc hasks
    refine ⟨?_, hst.trans ((nextPlanRead_store _).trans (onFilling_restart s.store g)), hc.trans (nextPlanRead_control _),
      fun hr => ?_⟩
    · rw [hl, nextPlanRead_loader, ← giveUp_then_read, loadOvertaken]
      simp [Loader.beginLoad, Loader.outcome, hf, giveUp_eq_none]
    · exact nextPlanRead_asks (s := loadOvertaken a g s) (InRun.not_loading he) (giveUp_eq_none.mpr hr) hasks
  overtakenMisaligned he h hf hg ha := by
    rw [handOverPlan_of_filling he h hf hg, overtake_of_misaligned ha he] at hl hst hc
    refine ⟨?_, hst.trans (onFilling_dropFilling s.store g), hc.trans (raise_plan_twice s.control)⟩
    rw [hl, ← giveUp_eq]
    rfl

/-! ## What else a hand-over changes -/

theorem handOverPlan_cases (a : Addr) (g : Word) (s : State) : handOverPlan a g s = s
    ∨ (InRun s ∧ handOverPlan a g s = firstRead (loadStarted a g s))
    ∨ (InRun s ∧ handOverPlan a g s = firstRead (loadOvertaken a g s)) := by
  unfold handOverPlan
  split
  · next hrun =>
    split
    · split
      · exact .inr (.inr ⟨hrun.1, rfl⟩)
      · exact .inl rfl
    · split
      · exact .inr (.inl ⟨hrun.1, rfl⟩)
      · exact .inl rfl
  · exact .inl rfl

theorem firstRead_control_of_run {s : State} (h : InRun s) :
    (firstRead s).control = s.control ∨ (firstRead s).control = s.control.raise .plan := by
  unfold firstRead
  split
  · rw [planRejected_of_run h.not_loading]
    exact .inr rfl
  · exact .inl (nextPlanRead_control s)

theorem raise_plan_idem (c : Control) : (c.raise .plan).raise .plan = c.raise .plan := raise_plan_twice c

/-- R61, R63: a hand-over changes nothing of Engine Control but PLAN. -/
theorem handOverPlan_control (a : Addr) (g : Word) (s : State) :
    (handOverPlan a g s).control = s.control ∨ (handOverPlan a g s).control = s.control.raise .plan := by
  obtain h | ⟨hrun, h⟩ | ⟨hrun, h⟩ := handOverPlan_cases a g s <;> rw [h]
  · exact .inl rfl
  · exact firstRead_control_of_run (s := loadStarted a g s) hrun
  · obtain k | k := firstRead_control_of_run (s := loadOvertaken a g s) hrun <;> rw [k]
    · exact .inr rfl
    · exact .inr (raise_plan_idem s.control)

theorem handOverPlan_registers (a : Addr) (g : Word) (s : State) :
    (handOverPlan a g s).port.timeout = s.port.timeout ∧ (handOverPlan a g s).port.busFaults = s.port.busFaults := by
  obtain h | ⟨-, h⟩ | ⟨-, h⟩ := handOverPlan_cases a g s <;> rw [h]
  · exact ⟨rfl, rfl⟩
  · exact firstRead_registers (loadStarted a g s)
  · exact firstRead_registers (loadOvertaken a g s)

/-! ## Step A (R127) -/

/-- R123, R127: the release count and the watermark are handed over before the plan. -/
def releaseHanded (s : State) : State :=
  { s with
    writer := s.writer.handOver s.service.hostControl
    service := { s.service with
      releaseBad := s.service.releaseBad || !s.writer.accepts s.service.hostControl.release } }

theorem handOvers_eq (s : State) : handOvers s =
    handOverPlan s.service.hostControl.planAddress s.service.hostControl.planGeneration (releaseHanded s) := rfl

theorem accepts_iff (w : Writer) (r : Word) :
    w.accepts r = true ↔ (r - w.released).toNat ≤ (w.written - w.released).toNat := decide_eq_true_iff

theorem not_accepts_eq (w : Writer) (r : Word) :
    (!w.accepts r) = decide (¬ (r - w.released).toNat ≤ (w.written - w.released).toNat) := decide_not.symm

theorem handOver_eq (w : Writer) (h : HostControl) : w.handOver h =
    { w with
      released := if (h.release - w.released).toNat ≤ (w.written - w.released).toNat then h.release else w.released
      watermark := h.watermark } := by
  simp only [Writer.handOver, accepts_iff]

theorem stepAEnds_of_pass {u : State} (h : u.service.activity = .pass) : stepAEnds u = beginPosting u := by
  simp [stepAEnds, h]

theorem stepAEnds_of_tail {u : State} (h : u.service.activity = .tail) : stepAEnds u = serviceFree u := by
  simp [stepAEnds, h]

theorem stepAEnds_hostControl (u : State) : (stepAEnds u).service.hostControl = u.service.hostControl := by
  unfold stepAEnds
  split
  · exact (postFrom_flags _ _).2
  · exact serviceFree_hostControl u
  · rfl
  · rfl
  · rfl

theorem sameTask_handOvers {s u : State} (k : SameTask s u) : SameTask s (handOvers u) where
  activity := by rw [handOvers_service]; exact k.activity
  boardPos := by rw [handOvers_service]; exact k.boardPos
  closingOwed := by rw [handOvers_service]; exact k.closingOwed
  owed := by rw [handOvers_service]; exact k.owed
  xbase := by rw [handOvers_xbase]; exact k.xbase
  boardCount := by
    rw [handOvers_eq]
    obtain h | h := handOverPlan_control u.service.hostControl.planAddress u.service.hostControl.planGeneration
      (releaseHanded u) <;> rw [h] <;> exact k.boardCount
  current := by rw [handOvers_timer]; exact k.current

/-- What the end of step A shows in every block. -/
structure StepAEnded (s u t : State) : Prop where
  settled : Settles (stepAEnds (handOvers u)) t
  task : SameTask s u

namespace StepAEnded

variable {s u t : State}

theorem works (_ : StepAEnded s u t) : WorksOn (handOvers u) (stepAEnds (handOvers u)) := stepAEnds_works _

theorem writer (h : StepAEnded s u t) : t.writer =
    { u.writer with
      released :=
        if (u.service.hostControl.release - u.writer.released).toNat ≤ (u.writer.written - u.writer.released).toNat then
          u.service.hostControl.release
        else u.writer.released
      watermark := u.service.hostControl.watermark } := by
  rw [h.settled.writer, stepAEnds_writer, handOvers_writer, handOver_eq]

theorem planHandedOver (h : StepAEnded s u t) : (releaseHanded u).PlanHandedOver t u.service.hostControl.planAddress
    u.service.hostControl.planGeneration := by
  refine planHandedOver_of (h.settled.loader.trans (stepAEnds_loader _)) (h.settled.store.trans (stepAEnds_store _))
    (h.settled.control.trans (stepAEnds_control _)) fun w hw => h.settled.asks .loader w ?_
  show (stepAEnds (handOvers u)).port.loader = some w
  rw [h.works.port]
  exact hw

theorem posting (h : StepAEnded s u t) (ha : s.service.activity = .pass) :
    s.PostingGoesOn t u.queue u.queue.finishedByTake := by
  have hset := h.settled
  have hact := (sameTask_handOvers h.task).activity.trans ha
  rw [stepAEnds_of_pass hact, beginPosting] at hset
  have k := sameTask_handOvers h.task
  have hposting := postingGoesOn_postFrom (s := s) hset
    ⟨k.activity, k.boardPos, k.closingOwed, k.owed, k.xbase, k.boardCount, k.current⟩ rfl
  rw [← handOvers_queue u]
  exact hposting

theorem flags (h : StepAEnded s u t) (ha : s.service.activity = .pass) : t.service.releaseBad =
    (u.service.releaseBad || !u.writer.accepts u.service.hostControl.release) := by
  have hset := h.settled
  rw [stepAEnds_of_pass ((sameTask_handOvers h.task).activity.trans ha), beginPosting] at hset
  obtain ⟨⟨-, -, hrelease, -⟩, -⟩ := postFrom_flags (handOvers u).queue.finishedByTake
    { handOvers u with service := { (handOvers u).service with step := .b } }
  rw [(workShown hset.work).releaseBad, hrelease]
  show (handOvers u).service.releaseBad = _
  rw [handOvers_service]

theorem tail (h : StepAEnded s u t) : s.TailEnds t := by
  intro ha
  have hset := h.settled
  rw [stepAEnds_of_tail ((sameTask_handOvers h.task).activity.trans ha)] at hset
  exact unitFree_serviceFree hset (sameTask_handOvers h.task)

theorem hostControl (h : StepAEnded s u t) : t.service.hostControl = u.service.hostControl := by
  rw [(workShown h.settled.work).hostControl, stepAEnds_hostControl, handOvers_service]

theorem control (h : StepAEnded s u t) : t.control = u.control ∨ t.control = u.control.raise .plan := by
  rw [h.settled.control, stepAEnds_control]
  exact handOverPlan_control _ _ (releaseHanded u)

theorem registers (h : StepAEnded s u t) : t.port.timeout = u.port.timeout ∧ t.port.busFaults = u.port.busFaults := by
  obtain ⟨htimeout, hfaults⟩ := handOverPlan_registers u.service.hostControl.planAddress
    u.service.hostControl.planGeneration (releaseHanded u)
  have hport := h.works.port
  exact ⟨h.settled.timeout.trans ((congrArg Port.timeout hport).trans htimeout),
    h.settled.busFaults.trans ((congrArg Port.busFaults hport).trans hfaults)⟩

theorem timer (h : StepAEnded s u t) : t.timer = u.timer := h.settled.timer.trans (by simp)
theorem cells (h : StepAEnded s u t) : t.cells = u.cells := h.settled.cells.trans (by simp)
theorem static (h : StepAEnded s u t) : t.static = u.static := h.settled.static.trans (by simp)
theorem queue (h : StepAEnded s u t) : t.queue = u.queue := h.settled.queue.trans (by simp)
theorem staging (h : StepAEnded s u t) : t.staging = u.staging := h.settled.staging.trans (by simp)
theorem health (h : StepAEnded s u t) : t.health = u.health := h.settled.health.trans (by simp)

theorem surroundings (h : StepAEnded s u t) : u.SameSurroundings t :=
  ⟨h.settled.now.trans (by simp), h.settled.outside.trans (by simp), h.settled.pending.trans (by simp)⟩

end StepAEnded

theorem exec_stepAReadDone {s : State} (h : s.Carries .stepARead) (data : Vector Byte 32) :
    exec (.stepAReadDone data) s = .next (grantAtEnd s.port (pollWriter (stepAReturns data.toList (freePort s)))) :=
  congrArg Host.Outcome.next (exec_of_carries h fun x hk => by rw [if_pos hk])

/-- R127: the values that step A has read. -/
def hostControlTaken (bs : List Byte) (s : State) : State :=
  { s with service := { s.service with hostControl := readHostControl bs } }

theorem planHandedOver_of_eq {s u t : State} {a : Addr} {g : Word} (h : u.PlanHandedOver t a g)
    (hc : u.control = s.control) (hst : u.store = s.store) (hl : u.loader = s.loader) : s.PlanHandedOver t a g := by
  cases s
  cases u
  cases hc
  cases hst
  cases hl
  exact ⟨h.ignored, h.started, h.startedMisaligned, h.overtaken, h.overtakenMisaligned⟩

/-- Settles O48: step A hands over the release count, the watermark and the plan. -/
theorem stepAHandsReleaseAndWatermark : Obligations.StepAHandsReleaseAndWatermark := by
  intro data s hc ha r accepted
  refine ⟨_, exec_stepAReadDone hc data, ?_⟩
  have h : StepAEnded s (hostControlTaken data.toList (freePort s)) _ :=
    ⟨settles_atEnd s.port (stepAReturns data.toList (freePort s)), ⟨rfl, rfl, rfl, rfl, rfl, rfl, rfl⟩⟩
  generalize grantAtEnd s.port (pollWriter (stepAReturns data.toList (freePort s))) = t at h
  have hcontrol : t.control = s.control ∨ t.control = s.control.raise .plan := h.control
  obtain ⟨hengine, hsetup, hreadback, hcauses⟩ : t.control.engine = s.control.engine
      ∧ t.control.setup = s.control.setup ∧ t.control.readback = s.control.readback
      ∧ s.control.RaisesOnly t.control [.plan] := by
    obtain e | e := hcontrol <;> rw [e]
    · exact ⟨rfl, rfl, rfl, raisesOnly_rfl _ _⟩
    · exact ⟨rfl, rfl, rfl, raisesOnly_raise (raisesOnly_rfl _ _) (by decide)⟩
  refine ⟨h.hostControl, h.writer, fun hp => ?_, fun hp => postingGoesOn_step_ne_a (h.posting hp), h.posting,
    planHandedOver_of_eq h.planHandedOver rfl rfl rfl, h.tail, h.timer, h.cells, h.static, h.queue, h.staging, h.health,
    hengine, hsetup, hreadback, hcauses, h.registers, h.surroundings⟩
  rw [h.flags hp, not_accepts_eq]
  rfl

end Sys2Proof.Proofs.HandOvers
end

section
/-! PROOFS. The checks of a plan (R43 to R49): each as its rule states it, and the reason of the first that fails. -/

namespace Sys2Proof.Proofs.PlanChecks

open Sys2Proof Sys2Proof.Machine

/-! ## Kinds -/

theorem kindIsOutput_iff (k : Byte) : kindIsOutput k = true ↔ k ∈ [1, 2, 3] := by revert k; decide

theorem kindIsWindow_iff (k : Byte) : kindIsWindow k = true ↔ k = 4 := by revert k; decide

theorem kindIsMark_iff (k : Byte) : kindIsMark k = true ↔ k = 5 := by revert k; decide

/-! ## The checks -/

/-- R45. -/
def GeometryOk (g : Geometry) (tolerance : Nat) : Prop :=
  1024 ≤ g.frameLength ∧ g.frameLength ≤ 4194304 ∧ 1 ≤ g.slots ∧ g.slots ≤ 64 ∧ 16 ≤ g.slotLength ∧ g.slotLength ≤ 65535
    ∧ g.minislots ≤ 256 ∧ 8 ≤ g.minislotLength ∧ g.minislotLength ≤ 4095
    ∧ (g.minislots = 0 ∨ g.latestStart < g.minislots)
    ∧ g.slots * g.slotLength + g.minislots * g.minislotLength + 2048 + tolerance ≤ g.frameLength

theorem badGeometry_iff (g : Geometry) (tolerance : Nat) : badGeometry g tolerance = true ↔ ¬ GeometryOk g tolerance := by
  simp only [badGeometry, GeometryOk, Bool.or_eq_true, Bool.not_eq_true', Bool.and_eq_false_iff, Bool.and_eq_true,
    decide_eq_false_iff_not, decide_eq_true_iff]
  simp only [Geometry.staticLength, Geometry.dynamicLength, Config.serviceWindowMin]
  omega

/-- R46. -/
def TooMany (count : Nat) (as : List ActionRecord) : Prop :=
  128 < count ∨ ∃ a ∈ as, 8 < as.countP fun b => b.slot == a.slot

theorem tooMany_iff (count : Nat) (as : List ActionRecord) : tooMany count as = true ↔ TooMany count as := by
  simp [tooMany, TooMany]

/-- R46: the order of two actions. -/
def Before (a b : ActionRecord) : Prop :=
  a.slot < b.slot ∨ (a.slot = b.slot ∧ a.offset < b.offset)
    ∨ (a.slot = b.slot ∧ a.offset = b.offset ∧ a.line.toNat < b.line.toNat)

theorem actionBefore_iff (a b : ActionRecord) : actionBefore a b = true ↔ Before a b := by
  simp only [actionBefore, Before, Bool.or_eq_true, Bool.and_eq_true, decide_eq_true_iff, beq_iff_eq, and_or_left]

/-- R46: two neighbours are out of order. -/
def BadOrder (as : List ActionRecord) : Prop :=
  ∃ (k : Nat) (a b : ActionRecord), as[k]? = some a ∧ as[k + 1]? = some b ∧ ¬ Before a b

theorem badOrder_cons (a b : ActionRecord) (rest : List ActionRecord) :
    BadOrder (a :: b :: rest) ↔ ¬ Before a b ∨ BadOrder (b :: rest) := by
  constructor
  · rintro ⟨k, c, d, hc, hd, hn⟩
    cases k with
    | zero =>
      cases hc
      cases hd
      exact .inl hn
    | succ k => exact .inr ⟨k, c, d, hc, hd, hn⟩
  · rintro (hn | ⟨k, c, d, hc, hd, hn⟩)
    · exact ⟨0, a, b, rfl, rfl, hn⟩
    · exact ⟨k + 1, c, d, hc, hd, hn⟩

theorem not_ascending_iff (as : List ActionRecord) : (!ascending as) = true ↔ BadOrder as := by
  induction as with
  | nil => exact ⟨(fun h => nomatch h), fun ⟨k, a, b, ha, _⟩ => by simp at ha⟩
  | cons a as ih =>
    cases as with
    | nil => exact ⟨(fun h => nomatch h), fun ⟨k, a, b, _, hb, _⟩ => by simp at hb⟩
    | cons b rest =>
      rw [badOrder_cons, ← ih, ← actionBefore_iff, ascending]
      simp only [Bool.not_eq_true', Bool.and_eq_false_iff, Bool.not_eq_true]

/-- R47. -/
theorem badFilter_iff (a : ActionRecord) :
    badFilter a = true ↔ a.period ∉ [1, 2, 4, 8, 16, 32, 64] ∨ a.period ≤ a.phase := by
  simp [badFilter, and_assoc]

theorem badParam_iff (slots : Nat) (a : ActionRecord) :
    badParam slots a = true ↔ slots ≤ a.slot ∨ 15 < a.line.toNat ∨ a.kind = 5 ∨ a.op = none := by
  simp only [badParam, Bool.or_eq_true, decide_eq_true_iff, kindIsMark_iff, Option.isNone_iff_eq_none, or_assoc]

theorem mem_allLines (l : Line) : l ∈ allLines := by revert l; decide

theorem badTable_iff (bs : List Byte) :
    allLines.any (fun l => (planLine bs l).isNone) = true ↔ ∃ l, planLine bs l = none := by
  simp only [List.any_eq_true, mem_allLines, true_and, Option.isNone_iff_eq_none]

/-- R48. -/
theorem overrunsSlot_iff (slotLength : Nat) (a : ActionRecord) :
    overrunsSlot slotLength a = true ↔ slotLength < a.offset + a.duration := decide_eq_true_iff

theorem kindMismatch_iff (kind : Byte) (d : Direction) :
    kindMismatch kind d = true ↔ (kind ∈ [1, 2, 3] ∧ d ≠ .drive) ∨ (kind = 4 ∧ d ≠ .sense) := by
  simp only [kindMismatch, Bool.or_eq_true, Bool.and_eq_true, kindIsOutput_iff, kindIsWindow_iff, bne_iff_ne]

/-- R49: two actions share a tick. -/
def Clash (a b : ActionRecord) : Prop :=
  a.line = b.line ∧ a.slot = b.slot ∧ a.offset < b.offset + b.duration ∧ b.offset < a.offset + a.duration

theorem clash_iff (a b : ActionRecord) : clash a b = true ↔ Clash a b := by
  simp only [clash, Clash, Bool.and_eq_true, beq_iff_eq, decide_eq_true_iff, and_assoc]

/-- R49. -/
def Overlap (as : List ActionRecord) : Prop :=
  ∃ (i k : Nat) (a b : ActionRecord), i < k ∧ as[i]? = some a ∧ as[k]? = some b ∧ Clash a b

theorem overlap_cons (a : ActionRecord) (rest : List ActionRecord) :
    Overlap (a :: rest) ↔ (∃ b ∈ rest, Clash a b) ∨ Overlap rest := by
  constructor
  · rintro ⟨i, k, c, d, hik, hc, hd, h⟩
    obtain ⟨k, rfl⟩ : ∃ j, k = j + 1 := ⟨k - 1, by omega⟩
    cases i with
    | zero =>
      cases hc
      exact .inl ⟨d, List.mem_of_getElem? hd, h⟩
    | succ i => exact .inr ⟨i, k, c, d, by omega, hc, hd, h⟩
  · rintro (⟨b, hb, h⟩ | ⟨i, k, c, d, hik, hc, hd, h⟩)
    · obtain ⟨k, hk⟩ := List.getElem?_of_mem hb
      exact ⟨0, k + 1, a, b, by omega, rfl, hk, h⟩
    · exact ⟨i + 1, k + 1, c, d, by omega, hc, hd, h⟩

theorem overlapping_iff (as : List ActionRecord) : overlapping as = true ↔ Overlap as := by
  induction as with
  | nil => exact ⟨(fun h => nomatch h), fun ⟨i, k, a, b, _, ha, _⟩ => by simp at ha⟩
  | cons a rest ih =>
    rw [overlapping, Bool.or_eq_true, ih, overlap_cons]
    simp only [List.any_eq_true, clash_iff]

/-! ## The first check that fails (R43) -/

/-- R47, BAD_PARAM: a field of an action or a setting of a line. -/
def BadParam (bs : List Byte) : Prop :=
  (∃ a ∈ planActions bs, (planHeader bs).geometry.slots ≤ a.slot ∨ 15 < a.line.toNat ∨ a.kind = 5 ∨ a.op = none)
    ∨ ∃ l, planLine bs l = none

/-- R43: checks 2 to 10 in order, each as its rule states it. -/
theorem planFailure_eq (bs : List Byte) (crc : Word) (tolerance : Nat) [∀ p, Decidable p] : planFailure bs crc tolerance =
    if crc ^^^ 0xFFFFFFFF#32 ≠ (planHeader bs).check then some .badCheck
    else if ¬ GeometryOk (planHeader bs).geometry tolerance then some .badGeometry
    else if TooMany (planHeader bs).actions (planActions bs) then some .tooMany
    else if BadOrder (planActions bs) then some .badOrder
    else if ∃ a ∈ planActions bs, a.period ∉ [1, 2, 4, 8, 16, 32, 64] ∨ a.period ≤ a.phase then some .badFilter
    else if BadParam bs then some .badParam
    else if ∃ a ∈ planActions bs, (planHeader bs).geometry.slotLength < a.offset + a.duration then some .overrunsSlot
    else if ∃ a ∈ planActions bs, (a.kind ∈ [1, 2, 3] ∧ (planSettings bs (lineOf a.line)).direction ≠ .drive)
        ∨ (a.kind = 4 ∧ (planSettings bs (lineOf a.line)).direction ≠ .sense) then some .lineMode
    else if Overlap (planActions bs) then some .overlap
    else none := by
  simp only [planFailure, crcFinish, badGeometry_iff, tooMany_iff, not_ascending_iff, Bool.or_eq_true, badTable_iff]
  simp only [List.any_eq_true, badFilter_iff, badParam_iff, overrunsSlot_iff, lineMode, kindMismatch_iff, overlapping_iff, BadParam]
  congr

/-- What it means that the reason is that of the first of nine checks to fail. -/
theorem reasons_of_nine {α : Type} [∀ p, Decidable p] {p1 p2 p3 p4 p5 p6 p7 p8 p9 : Prop}
    {r a1 a2 a3 a4 a5 a6 a7 a8 a9 a10 : α}
    (h : r = if p1 then a1 else if p2 then a2 else if p3 then a3 else if p4 then a4 else if p5 then a5 else if p6 then a6
      else if p7 then a7 else if p8 then a8 else if p9 then a9 else a10) :
    (p1 → r = a1) ∧ (¬ p1 → p2 → r = a2) ∧ (¬ p1 → ¬ p2 → p3 → r = a3) ∧ (¬ p1 → ¬ p2 → ¬ p3 → p4 → r = a4)
      ∧ (¬ p1 → ¬ p2 → ¬ p3 → ¬ p4 → p5 → r = a5) ∧ (¬ p1 → ¬ p2 → ¬ p3 → ¬ p4 → ¬ p5 → p6 → r = a6)
      ∧ (¬ p1 → ¬ p2 → ¬ p3 → ¬ p4 → ¬ p5 → ¬ p6 → p7 → r = a7)
      ∧ (¬ p1 → ¬ p2 → ¬ p3 → ¬ p4 → ¬ p5 → ¬ p6 → ¬ p7 → p8 → r = a8)
      ∧ (¬ p1 → ¬ p2 → ¬ p3 → ¬ p4 → ¬ p5 → ¬ p6 → ¬ p7 → ¬ p8 → p9 → r = a9)
      ∧ (¬ p1 → ¬ p2 → ¬ p3 → ¬ p4 → ¬ p5 → ¬ p6 → ¬ p7 → ¬ p8 → ¬ p9 → r = a10) := by
  subst h
  refine ⟨?_, ?_, ?_, ?_, ?_, ?_, ?_, ?_, ?_, ?_⟩ <;> intros <;> simp only [*, if_true, if_false]

end Sys2Proof.Proofs.PlanChecks
end

section
/-! PROOFS. Plan reads (R59 to R63, R65, R71): a read of the load in progress advances it or ends it; a STALE one lets the next
read go. -/

namespace Sys2Proof.Proofs.PlanReads

open Sys2Proof Sys2Proof.Machine Sys2Proof.Proofs.EngineControl Sys2Proof.Proofs.PortGrants Sys2Proof.Proofs.Moves
open Sys2Proof.Proofs.KeptBounds Sys2Proof.Proofs.SetupReads Sys2Proof.Proofs.LoadStarts Sys2Proof.Proofs.HandOvers
open Sys2Proof.Proofs.PlanChecks

/-! ## The bank that is filled -/

theorem fillingContent_of_bank0 {st : Store} (h : st.bank0.state = .filling) (bytes : List Byte) :
    (st.take bytes).fillingContent = (st.bank0.content ++ bytes).take 2208 := by
  simp [Store.fillingContent, Store.take, Store.onFilling, h, Config.bankBytes]

theorem fillingContent_of_bank1 {st : Store} (h : st.bank0.state ≠ .filling) (k : st.bank1.state = .filling)
    (bytes : List Byte) : (st.take bytes).fillingContent = (st.bank1.content ++ bytes).take 2208 := by
  simp [Store.fillingContent, Store.take, Store.onFilling, h, k, Config.bankBytes]

/-- R51: a load that ends without a plan leaves nothing of the bytes read. -/
theorem take_dropFilling (st : Store) (bytes : List Byte) : (st.take bytes).dropFilling =
    { st with
      bank0 := if st.bank0.state = .filling then .free else st.bank0
      bank1 := if st.bank1.state = .filling then .free else st.bank1 } := by
  unfold Store.dropFilling Store.take Store.onFilling
  dsimp only
  congr 1
  · split <;> simp_all
  · split <;> simp_all

/-- R59, R61, R71: the filled bank with the last bytes and its new state. -/
theorem take_then_pass (b : Bank) (bytes : List Byte) (new : BankState) :
    (let c := if b.state = .filling then { b with content := (b.content ++ bytes).take Config.bankBytes } else b
      if c.state = .filling then { c with state := new } else c) =
      if b.state = .filling then { b with state := new, content := (b.content ++ bytes).take 2208 } else b := by
  by_cases h : b.state = .filling <;> simp [h, Config.bankBytes]

/-! ## What a read leads to -/

theorem planReadReturns_of_current {s : State} (h : s.loader.readOut = .currentLoad) (bytes : List Byte) :
    planReadReturns bytes s = afterPlanBytes (takePlanBytes bytes s) := by
  rw [planReadReturns, h]

theorem planReadReturns_of_stale {s : State} (h : s.loader.readOut = .stale) (bytes : List Byte) :
    planReadReturns bytes s = staleReadEnds s := by
  rw [planReadReturns, h]

theorem headerBadFormat_iff (bs : List Byte) (g : Word) : headerBadFormat (planHeader bs) g = true ↔
    (byteAt bs 0).toNat ≠ 1 ∨ (word bs 24).toNat ≠ 160 + 16 * (half bs 2).toNat ∨ word bs 4 ≠ g := by
  simp only [headerBadFormat, planHeader, planLength, Bool.or_eq_true, bne_iff_ne, or_assoc]

/-- R59: the header has passed, and the total length is known. -/
def withTotal (total : Nat) (s : State) : State := { s with loader := { s.loader with total := some total } }

theorem afterPlanBytes_of_badHeader {s : State} (h : s.loader.total = none)
    (k : headerBadFormat (planHeader s.store.fillingContent) s.loader.generation = true) :
    afterPlanBytes s = planRejected .badFormat s := by
  rw [afterPlanBytes, h]
  exact if_pos k

theorem afterPlanBytes_of_goodHeader {s : State} (h : s.loader.total = none)
    (k : ¬ headerBadFormat (planHeader s.store.fillingContent) s.loader.generation = true) : afterPlanBytes s =
      nextPlanRead (withTotal (160 + 16 * (half s.store.fillingContent 2).toNat) s) := by
  rw [afterPlanBytes, h]
  exact if_neg k

theorem afterPlanBytes_of_more {s : State} {total : Nat} (h : s.loader.total = some total) (k : s.loader.position < total) :
    afterPlanBytes s = nextPlanRead (withTotal total s) := by
  have hsame : withTotal total s = s := by rw [withTotal, ← h]
  rw [hsame, afterPlanBytes, h]
  exact if_neg (Nat.not_le.mpr k)

theorem afterPlanBytes_of_last {s : State} {total : Nat} (h : s.loader.total = some total) (k : total ≤ s.loader.position) :
    afterPlanBytes s = judgePlan s := by
  rw [afterPlanBytes, h]
  exact if_pos k

theorem judgePlan_of_failure {s : State} {reason : PlanDetail}
    (h : planFailure s.store.fillingContent s.loader.crc s.setupInUse.tolerance = some reason) :
    judgePlan s = planRejected reason s := by
  rw [judgePlan, h]

theorem judgePlan_of_loading {s : State} (he : s.control.engine = .loading)
    (h : planFailure s.store.fillingContent s.loader.crc s.setupInUse.tolerance = none) : judgePlan s = planCurrent s := by
  rw [judgePlan, h]
  exact if_pos (by simp [State.initialLoad, he])

theorem judgePlan_of_run {s : State} (he : s.control.engine ≠ .loading)
    (h : planFailure s.store.fillingContent s.loader.crc s.setupInUse.tolerance = none) : judgePlan s = planPending s := by
  rw [judgePlan, h]
  exact if_neg (by simp [State.initialLoad, he])

theorem setupInUse_of_loading {s : State} {u : Setup} (he : s.control.engine = .loading)
    (h : s.control.loading = some u) : s.setupInUse = u := by
  simp [State.setupInUse, State.initialLoad, he, h]

theorem setupInUse_of_run {s : State} (he : s.control.engine ≠ .loading) : s.setupInUse = s.control.setup := by
  simp [State.setupInUse, State.initialLoad, he]

/-! ## What stays -/

theorem planReadReturns_registers (bytes : List Byte) (s : State) :
    (planReadReturns bytes s).port.timeout = s.port.timeout ∧ (planReadReturns bytes s).port.busFaults = s.port.busFaults := by
  have hrejected : ∀ (d : PlanDetail) (v : State), v.port = s.port → (planRejected d v).port.timeout = s.port.timeout
      ∧ (planRejected d v).port.busFaults = s.port.busFaults := by
    intro d v hv
    rw [planRejected_port, hv]
    exact ⟨rfl, rfl⟩
  have hnext : ∀ v : State, v.port = s.port → (nextPlanRead v).port.timeout = s.port.timeout
      ∧ (nextPlanRead v).port.busFaults = s.port.busFaults := by
    intro v hv
    rw [← hv]
    exact nextPlanRead_registers v
  unfold planReadReturns
  split
  · exact ⟨rfl, rfl⟩
  · unfold staleReadEnds
    dsimp only
    split
    · exact hnext _ rfl
    · exact ⟨rfl, rfl⟩
  · unfold afterPlanBytes
    split
    · unfold judgeHeader
      dsimp only
      split
      · exact hrejected _ _ rfl
      · exact hnext _ rfl
    · split
      · unfold judgePlan
        split
        · exact hrejected _ _ rfl
        · split <;> exact ⟨rfl, rfl⟩
      · exact hnext _ rfl

theorem exec_planReadDone {s : State} {x : Transfer} (hx : s.port.outstanding = some x) (hk : x.kind = .planRead)
    (hd : x.discard = false) (data : Vector Byte 64) : exec (.planReadDone data) s =
      .next (grantAtEnd s.port (pollWriter (planReadReturns (data.toList.take x.length) (freePort s)))) :=
  congrArg Host.Outcome.next (respond_of_live hx hd (by rw [if_pos hk]))

/-! ## The outcomes of a read of the load in progress -/

/-- R42, R59: the CRC and the position after a read's bytes. -/
def crcAfter (l : Loader) (bytes : List Byte) : Word :=
  crcBytes l.crc (if l.position = 0 then bytes.take 8 ++ [0, 0, 0, 0] ++ bytes.drop 12 else bytes)

/-- R59: the load goes on with its next read. -/
def Advances (s : State) (bytes : List Byte) (t : State) (total : Nat) : Prop :=
  t.loader =
      { s.loader with
        crc := crcAfter s.loader bytes, position := s.loader.position + bytes.length, total := some total
        readOut := .currentLoad }
    ∧ t.store = s.store.take bytes ∧ t.control = s.control ∧ s.service.SameWork t.service
    ∧ t.Asks (if s.control.engine = .loading then .service else .loader) .planRead
        (s.loader.address + BitVec.ofNat 64 (s.loader.position + bytes.length))
        (min 64 (total - (s.loader.position + bytes.length)))

theorem advances_of {s t : State} {bytes : List Byte} {total : Nat}
    (h : Settles (nextPlanRead (withTotal total (takePlanBytes bytes (freePort s)))) t) : Advances s bytes t total := by
  rw [nextPlanRead_of_free (s := withTotal total (takePlanBytes bytes (freePort s))) rfl] at h
  exact ⟨h.loader, h.store, h.control, h.work, h.asks _ _ (request_waiting _ _ _)⟩

/-- R61, R71: the load ends with a rejection. -/
def Rejects (s : State) (bytes : List Byte) (t : State) (reason : PlanDetail) : Prop :=
  t.loader =
      { s.loader with
        crc := crcAfter s.loader bytes, position := s.loader.position + bytes.length, readOut := .none, filling := false
        generation := 0, lastRefused := s.loader.generation, posted := false
        status := { generation := s.loader.generation, status := .rejected, detail := reason } }
    ∧ t.control =
        (if s.control.engine = .loading then
          { s.control with
            engine := .idle, pending := .none, stage := .none, loading := none
            readback := { last := 1, outcome := .failed, reason := .planRejected, planReason := reason }
            cause := s.control.cause ||| 0b010100#6 }
        else { s.control with cause := s.control.cause ||| 0b000100#6 })
    ∧ s.service.SameWork t.service
    ∧ t.store =
        { s.store with
          bank0 := if s.store.bank0.state = .filling then .free else s.store.bank0
          bank1 := if s.store.bank1.state = .filling then .free else s.store.bank1 }

/-- R71, R177: a rejection during LOAD raises PLAN and COMMAND. -/
theorem cause_plan_command (c : BitVec 6) : c ||| 0b000100#6 ||| 0b010000#6 = c ||| 0b010100#6 := by
  rw [BitVec.or_assoc]
  rfl

theorem rejects_of {s t : State} {bytes : List Byte} {reason : PlanDetail}
    (h : Settles (planRejected reason (takePlanBytes bytes (freePort s))) t) : Rejects s bytes t reason := by
  by_cases he : s.control.engine = .loading
  · rw [planRejected_of_loading (s := takePlanBytes bytes (freePort s)) he] at h
    refine ⟨h.loader, ?_, h.work, h.store.trans (take_dropFilling s.store bytes)⟩
    rw [if_pos he, ← cause_plan_command]
    exact h.control
  · rw [planRejected_of_run (s := takePlanBytes bytes (freePort s)) he] at h
    refine ⟨h.loader, ?_, h.work, h.store.trans (take_dropFilling s.store bytes)⟩
    rw [if_neg he]
    exact h.control

/-- R61, R71: the plan passes: it is CURRENT during LOAD, else PENDING. -/
def Passes (s : State) (bytes : List Byte) (t : State) : Prop :=
  t.loader =
      { s.loader with
        crc := crcAfter s.loader bytes, position := s.loader.position + bytes.length, readOut := .none, filling := false
        generation := 0, posted := false
        status :=
          { generation := s.loader.generation
            status := if s.control.engine = .loading then .current else .pending, detail := .none } }
    ∧ t.control =
        (if s.control.engine = .loading then { s.control with stage := .statusWrite, cause := s.control.cause ||| 0b000100#6 }
        else s.control)
    ∧ (s.control.engine = .loading → Service.SameWork { s.service with activity := .statusWrite, step := .d } t.service
        ∧ t.Asks .service .statusFirst (s.control.xbase + 160) 32)
    ∧ (¬ s.control.engine = .loading → s.service.SameWork t.service)
    ∧ t.store.bank0 =
        (if s.store.bank0.state = .filling then
          { s.store.bank0 with
            state := if s.control.engine = .loading then .current else .pending
            content := (s.store.bank0.content ++ bytes).take 2208 }
        else s.store.bank0)
    ∧ t.store.bank1 =
        (if s.store.bank1.state = .filling then
          { s.store.bank1 with
            state := if s.control.engine = .loading then .current else .pending
            content := (s.store.bank1.content ++ bytes).take 2208 }
        else s.store.bank1)

theorem passes_of_loading {s t : State} {bytes : List Byte} (he : s.control.engine = .loading)
    (h : Settles (planCurrent (takePlanBytes bytes (freePort s))) t) : Passes s bytes t := by
  unfold Passes
  simp only [if_pos he]
  exact ⟨h.loader, h.control, fun _ => ⟨h.work, h.asks .service _ rfl⟩, fun hn => absurd he hn,
    (congrArg Store.bank0 h.store).trans (take_then_pass s.store.bank0 bytes .current),
    (congrArg Store.bank1 h.store).trans (take_then_pass s.store.bank1 bytes .current)⟩

theorem passes_of_run {s t : State} {bytes : List Byte} (he : s.control.engine ≠ .loading)
    (h : Settles (planPending (takePlanBytes bytes (freePort s))) t) : Passes s bytes t := by
  unfold Passes
  simp only [if_neg he]
  exact ⟨h.loader, h.control, fun hl => absurd hl he, fun _ => h.work,
    (congrArg Store.bank0 h.store).trans (take_then_pass s.store.bank0 bytes .pending),
    (congrArg Store.bank1 h.store).trans (take_then_pass s.store.bank1 bytes .pending)⟩

/-! ## A STALE read (R63, R65) -/

theorem staleReadEnds_of_filling {s : State} (h : s.loader.filling = true) : staleReadEnds s =
    { s with
      loader := { s.loader with readOut := .currentLoad }
      port := s.port.request (planRequester s)
        { kind := .planRead, address := s.loader.address + BitVec.ofNat 64 s.loader.position,
          length := s.loader.readLength } } := by
  rw [staleReadEnds, if_pos h]
  exact nextPlanRead_of_free (s := { s with loader := { s.loader with readOut := .none } }) rfl

theorem staleReadEnds_of_idle {s : State} (h : s.loader.filling = false) :
    staleReadEnds s = { s with loader := { s.loader with readOut := .none } } := by
  rw [staleReadEnds, if_neg (by simp [h])]

/-- R63: what the end of a STALE read leaves of the Loader and the port, and the read it lets go. -/
structure StaleEnds (u v : State) : Prop where
  loader : v.loader = { u.loader with readOut := if u.loader.filling then .currentLoad else .none }
  asks : u.loader.filling = true → v.port.waiting (planRequester u) = some
    { kind := .planRead, address := u.loader.address + BitVec.ofNat 64 u.loader.position, length := u.loader.readLength }
  timeout : v.port.timeout = u.port.timeout
  busFaults : v.port.busFaults = u.port.busFaults

theorem staleReadEnds_ends (u : State) : StaleEnds u (staleReadEnds u) := by
  cases hf : u.loader.filling with
  | true =>
    rw [staleReadEnds_of_filling hf]
    exact ⟨by rw [hf]; rfl, fun _ => request_waiting _ _ _, request_timeout _ _ _, request_busFaults _ _ _⟩
  | false =>
    rw [staleReadEnds_of_idle hf]
    exact ⟨by rw [hf]; rfl, fun h => absurd (hf.symm.trans h) nofun, rfl, rfl⟩

theorem readLength_eq (l : Loader) : l.readLength = match l.total with
    | none => 32
    | some total => min 64 (total - l.position) := by
  unfold Loader.readLength
  split <;> simp_all

/-- Settles O49: a plan read advances the load or ends it, a STALE one lets the next go, and the checks are made in order. -/
theorem planReadAdvancesOrEndsTheLoad : Obligations.PlanReadAdvancesOrEndsTheLoad := by
  refine ⟨?current, ?stale, ?checks⟩
  case current =>
    intro data s x u hx hk hd hr hf he initial tolerance bytes position crc filled badFormat goesOn rejected passed
    refine ⟨_, exec_planReadDone hx hk hd data, ?_⟩
    have h := settles_atEnd s.port (planReadReturns bytes (freePort s))
    have hregisters := planReadReturns_registers bytes (freePort s)
    generalize grantAtEnd s.port (pollWriter (planReadReturns bytes (freePort s))) = t at h
    have hkept : s.SamePortRegisters t := ⟨h.timeout.trans hregisters.1, h.busFaults.trans hregisters.2⟩
    have htolerance : (takePlanBytes bytes (freePort s)).setupInUse.tolerance = tolerance := by
      by_cases hl : s.control.engine = .loading
      · have hloading : s.control.loading = some u := by
          obtain e | e | ⟨-, e⟩ := he
          · exact absurd (e.symm.trans hl) nofun
          · exact absurd (e.symm.trans hl) nofun
          · exact e
        rw [setupInUse_of_loading (s := takePlanBytes bytes (freePort s)) hl hloading]
        exact (if_pos hl).symm
      · rw [setupInUse_of_run (s := takePlanBytes bytes (freePort s)) hl]
        exact (if_neg hl).symm
    refine ⟨fun ht hb => ?badHeader, fun ht hb => ?goodHeader, fun total ht hp => ?more, fun total reason ht hp hfail => ?fails,
      fun total ht hp hpass => ?passes, fun hb => fillingContent_of_bank0 hb bytes,
      fun hb hb1 => fillingContent_of_bank1 hb hb1 bytes, h.timer.trans (planReadReturns_timer _ _),
      h.cells.trans (planReadReturns_cells _ _), h.static.trans (planReadReturns_static _ _),
      h.queue.trans (planReadReturns_queue _ _), h.staging.trans (planReadReturns_staging _ _),
      h.writer.trans (planReadReturns_writer _ _), h.health.trans (planReadReturns_health _ _), hkept,
      h.now.trans (planReadReturns_now _ _), h.outside.trans (planReadReturns_outside _ _),
      h.pending.trans (planReadReturns_pending _ _)⟩
    all_goals rw [planReadReturns_of_current (s := freePort s) hr] at h
    case badHeader =>
      rw [afterPlanBytes_of_badHeader (s := takePlanBytes bytes (freePort s)) ht ((headerBadFormat_iff _ _).mpr hb)] at h
      exact rejects_of h
    case goodHeader =>
      rw [afterPlanBytes_of_goodHeader (s := takePlanBytes bytes (freePort s)) ht fun k => hb ((headerBadFormat_iff _ _).mp k)]
        at h
      exact advances_of h
    case more =>
      rw [afterPlanBytes_of_more (s := takePlanBytes bytes (freePort s)) ht hp] at h
      exact advances_of h
    case fails =>
      rw [afterPlanBytes_of_last (s := takePlanBytes bytes (freePort s)) ht hp,
        judgePlan_of_failure (s := takePlanBytes bytes (freePort s)) (by rw [htolerance]; exact hfail)] at h
      exact rejects_of h
    case passes =>
      rw [afterPlanBytes_of_last (s := takePlanBytes bytes (freePort s)) ht hp] at h
      by_cases hl : s.control.engine = .loading
      · rw [judgePlan_of_loading (s := takePlanBytes bytes (freePort s)) hl (by rw [htolerance]; exact hpass)] at h
        exact passes_of_loading hl h
      · rw [judgePlan_of_run (s := takePlanBytes bytes (freePort s)) hl (by rw [htolerance]; exact hpass)] at h
        exact passes_of_run hl h
  case stale =>
    intro data s hc hr
    obtain ⟨x, hx, hk, hd⟩ := hc
    refine ⟨_, exec_planReadDone hx hk hd data, ?_⟩
    rw [planReadReturns_of_stale (s := freePort s) hr]
    have h := settles_atEnd s.port (staleReadEnds (freePort s))
    obtain ⟨hloader, hasks, htimeout, hfaults⟩ := staleReadEnds_ends (freePort s)
    generalize grantAtEnd s.port (pollWriter (staleReadEnds (freePort s))) = t at h
    refine ⟨h.loader.trans hloader, fun hf => ?_, h.control.trans (staleReadEnds_control _),
      ⟨h.timer.trans (staleReadEnds_timer _), h.cells.trans (staleReadEnds_cells _), h.store.trans (staleReadEnds_store _),
        h.static.trans (staleReadEnds_static _), h.queue.trans (staleReadEnds_queue _)⟩,
      h.staging.trans (staleReadEnds_staging _), h.writer.trans (staleReadEnds_writer _),
      h.health.trans (staleReadEnds_health _), staleReadEnds_service (freePort s) ▸ h.work,
      ⟨h.timeout.trans htimeout, h.busFaults.trans hfaults⟩, h.now.trans (staleReadEnds_now _),
      h.outside.trans (staleReadEnds_outside _), h.pending.trans (staleReadEnds_pending _)⟩
    have hread := h.asks _ _ (hasks hf)
    rw [readLength_eq] at hread
    exact hread
  case checks =>
    intro bs crc tolerance
    classical
    have hreasons := reasons_of_nine (planFailure_eq bs crc tolerance)
    exact hreasons

end Sys2Proof.Proofs.PlanReads
end

section
/-! PROOFS. The take checks of a request (R79, R80), the operation it describes (R40, R74) and its length in minislots. -/

namespace Sys2Proof.Proofs.TakeChecks

open Sys2Proof Sys2Proof.Machine Sys2Proof.Proofs.SetupReads Sys2Proof.Proofs.PlanChecks Sys2Proof.Proofs.DynamicPhase

/-! ## The checks (R79) -/

theorem kindKnown_iff (k : Byte) : kindKnown k = true ↔ k ∈ [1, 2, 3, 4, 5] := by revert k; decide

theorem flagOf_eq_none_iff (b : Byte) : flagOf b = none ↔ b ≠ 0 ∧ b ≠ 1 := by revert b; decide

theorem requestBadParam_iff (r : Request) : requestBadParam r = true ↔
    7 < r.priority.toNat ∨ (r.atOnce ≠ 0 ∧ r.atOnce ≠ 1) ∨ r.op = none := by
  simp only [requestBadParam, Bool.or_eq_true, decide_eq_true_iff, Option.isNone_iff_eq_none, flagOf_eq_none_iff, or_assoc]

theorem requestLineMode_iff (plan : List Byte) (r : Request) : requestLineMode plan r = true ↔
    (r.kind ∈ [1, 2, 3] ∧ (planSettings plan (lineOf r.line)).direction ≠ .drive)
      ∨ (r.kind = 4 ∧ (planSettings plan (lineOf r.line)).direction ≠ .sense) := kindMismatch_iff _ _

theorem badLine_iff (r : Request) :
    (!kindIsMark r.kind && decide (15 < r.line.toNat)) = true ↔ r.kind ≠ 5 ∧ 15 < r.line.toNat := by
  rw [Bool.and_eq_true, Bool.not_eq_true', ← Bool.not_eq_true, kindIsMark_iff, decide_eq_true_iff]

/-- R79: the checks in order, each as its rule states it. -/
theorem takeFailure_eq (plan : List Byte) (r : Request) [∀ p, Decidable p] : takeFailure plan r =
    if r.kind ∉ [1, 2, 3, 4, 5] then some .badKind
    else if r.kind ≠ 5 ∧ 15 < r.line.toNat then some .badLine
    else if 7 < r.priority.toNat ∨ (r.atOnce ≠ 0 ∧ r.atOnce ≠ 1) ∨ r.op = none then some .badParam
    else if (r.kind ∈ [1, 2, 3] ∧ (planSettings plan (lineOf r.line)).direction ≠ .drive)
        ∨ (r.kind = 4 ∧ (planSettings plan (lineOf r.line)).direction ≠ .sense) then some .lineMode
    else if (planHeader plan).geometry.minislots = 0
        ∨ (planHeader plan).geometry.minislots < r.minislots (planHeader plan).geometry then some .tooLong
    else none := by
  have hkind : (!kindKnown r.kind) = true ↔ r.kind ∉ [1, 2, 3, 4, 5] := by
    rw [Bool.not_eq_true', ← Bool.not_eq_true, kindKnown_iff]
  simp only [takeFailure, hkind, badLine_iff, requestBadParam_iff, requestLineMode_iff, tooLong_iff]

/-- What it means that the reason is that of the first of five checks to fail. -/
theorem reasons_of_five {α : Type} [∀ p, Decidable p] {p1 p2 p3 p4 p5 : Prop} {r a1 a2 a3 a4 a5 a6 : α}
    (h : r = if p1 then a1 else if p2 then a2 else if p3 then a3 else if p4 then a4 else if p5 then a5 else a6) :
    (p1 → r = a1) ∧ (¬ p1 → p2 → r = a2) ∧ (¬ p1 → ¬ p2 → p3 → r = a3) ∧ (¬ p1 → ¬ p2 → ¬ p3 → p4 → r = a4)
      ∧ (¬ p1 → ¬ p2 → ¬ p3 → ¬ p4 → p5 → r = a5) ∧ (¬ p1 → ¬ p2 → ¬ p3 → ¬ p4 → ¬ p5 → r = a6) := by
  subst h
  refine ⟨?_, ?_, ?_, ?_, ?_, ?_⟩ <;> intros <;> simp only [*, if_true, if_false]

/-! ## The length of a request (R80) -/

/-- R80: the length in minislots is the least that is at least 1 and holds the duration. -/
theorem lengthInMinislots_spec (duration : Nat) {minislot : Nat} (h : 0 < minislot) :
    1 ≤ lengthInMinislots duration minislot ∧ duration ≤ lengthInMinislots duration minislot * minislot
      ∧ ∀ n, 1 ≤ n → duration ≤ n * minislot → lengthInMinislots duration minislot ≤ n := by
  unfold lengthInMinislots
  refine ⟨le_max_left _ _, ?_, fun n hn hd => max_le hn ?_⟩
  · calc duration ≤ (duration + minislot - 1) / minislot * minislot := by
          have hdiv := Nat.div_add_mod (duration + minislot - 1) minislot
          have hmod := Nat.mod_lt (duration + minislot - 1) h
          rw [Nat.mul_comm] at hdiv
          omega
      _ ≤ max 1 ((duration + minislot - 1) / minislot) * minislot := Nat.mul_le_mul_right _ (le_max_right _ _)
  · rw [← Nat.lt_succ_iff, Nat.div_lt_iff_lt_mul h, Nat.succ_mul]
    omega

theorem minislots_eq {r : Request} {op : Operation} (h : r.op = some op) (g : Geometry) :
    r.minislots g = lengthInMinislots op.duration g.minislotLength := by
  rw [Request.minislots, Request.duration, h]
  rfl

/-! ## Operations (R40, R74) -/

theorem levelOpOf_eq (b : Byte) :
    levelOpOf b = if b = 0 then some .set else if b = 1 then some .clear else if b = 2 then some .toggle else none := by
  revert b; decide

theorem edgeSelectOf_eq (b : Byte) :
    edgeSelectOf b = if b = 0 then some .rise else if b = 1 then some .fall else if b = 2 then some .both else none := by
  revert b; decide

theorem half_pos_iff (p : Half) : 1 ≤ p.toNat ↔ p ≠ 0 := by
  have hzero : p.toNat = 0 ↔ p = 0 := (BitVec.toNat_eq (x := p) (y := 0)).symm
  rw [Nat.one_le_iff_ne_zero, ne_eq, hzero]

/-- R40, R74: the operation of each kind. -/
theorem operationOf_kinds (kind opEdge most : Byte) (p1 p2 p3 : Half) :
    let op := operationOf kind opEdge most p1 p2 p3
    (kind = 1 → op = if opEdge = 0 then some (.level .set) else if opEdge = 1 then some (.level .clear)
        else if opEdge = 2 then some (.level .toggle) else none)
      ∧ (kind = 2 → op = if p1 = 0 then none else some (.pulse p1.toNat))
      ∧ (kind = 3 → op = if p1.toNat < 2 ∨ p3 = 0 then none else some (.burst p1.toNat p2.toNat p3.toNat))
      ∧ (kind = 4 → op = if p1 = 0 ∨ most = 0 ∨ 8 < most.toNat then none
        else if opEdge = 0 then some (.window p1.toNat .rise most.toNat)
        else if opEdge = 1 then some (.window p1.toNat .fall most.toNat)
        else if opEdge = 2 then some (.window p1.toNat .both most.toNat) else none)
      ∧ (kind = 5 → op = some .mark) ∧ (kind ∉ [1, 2, 3, 4, 5] → op = none) := by
  refine ⟨?level, ?pulse, ?burst, ?window, ?mark, ?none⟩
  case level =>
    rintro rfl
    show (levelOpOf opEdge).map Operation.level = _
    rw [levelOpOf_eq]
    split_ifs <;> rfl
  case pulse =>
    rintro rfl
    show (if 1 ≤ p1.toNat then some (Operation.pulse p1.toNat) else none) = _
    by_cases hp : p1 = 0 <;> simp [half_pos_iff, hp]
  case burst =>
    rintro rfl
    show (if 2 ≤ p1.toNat ∧ 1 ≤ p3.toNat then some (Operation.burst p1.toNat p2.toNat p3.toNat) else none) = _
    by_cases hp : p1.toNat < 2 ∨ p3 = 0
    · rw [if_pos hp, if_neg]
      rw [half_pos_iff]
      exact fun h => hp.elim (Nat.not_lt.mpr h.1) h.2
    · rw [if_neg hp, if_pos]
      rw [half_pos_iff]
      exact ⟨Nat.not_lt.mp fun h => hp (.inl h), fun h => hp (.inr h)⟩
  case window =>
    rintro rfl
    show (if 1 ≤ p1.toNat ∧ 1 ≤ most.toNat ∧ most.toNat ≤ 8 then
      (edgeSelectOf opEdge).map fun e => Operation.window p1.toNat e most.toNat else none) = _
    by_cases hp : p1 = 0 ∨ most = 0 ∨ 8 < most.toNat
    · rw [if_pos hp, if_neg]
      rw [half_pos_iff, one_le_toNat_iff]
      rintro ⟨h1, h2, h3⟩
      exact hp.elim h1 fun hq => hq.elim h2 (Nat.not_lt.mpr h3)
    · rw [if_neg hp, if_pos, edgeSelectOf_eq]
      · split_ifs <;> rfl
      · rw [half_pos_iff, one_le_toNat_iff]
        exact ⟨fun h => hp (.inl h), fun h => hp (.inr (.inl h)), Nat.not_lt.mp fun h => hp (.inr (.inr h))⟩
  case mark =>
    rintro rfl
    rfl
  case none =>
    intro h
    have hcodes : kind.toNat ∉ [1, 2, 3, 4, 5] := by
      revert kind
      decide
    show operationOf kind opEdge most p1 p2 p3 = none
    unfold operationOf
    split <;> simp_all

end Sys2Proof.Proofs.TakeChecks
end

section
/-! PROOFS. The scan of one board entry (R77 to R87): the request is taken or rejected, cancelled, or left. -/

namespace Sys2Proof.Proofs.EntryScan

open Sys2Proof Sys2Proof.Machine Sys2Proof.Proofs.PortGrants Sys2Proof.Proofs.Moves Sys2Proof.Proofs.ServiceWork
open Sys2Proof.Proofs.SetupReads Sys2Proof.Proofs.LoadStarts Sys2Proof.Proofs.ServiceTasks Sys2Proof.Proofs.TakeChecks

/-! ## The end of a unit -/

theorem unitEnds_hostControl (u : State) : (unitEnds u).service.hostControl = u.service.hostControl := by
  unfold unitEnds
  split
  · split
    · exact (postFrom_flags _ u).2
    · obtain ⟨-, -, -, -, h⟩ := scanNext_service { u with service := { u.service with boardPos := u.service.boardPos + 1 } }
      exact h
    · rfl
    · rfl
  · exact serviceFree_hostControl u
  · rfl
  · rfl
  · rfl

/-- Between the end of the transfer and the end of the unit nothing has changed but the Service Unit. -/
structure UnitInHand (s u : State) : Prop where
  rest : u = { freePort s with service := u.service }
  hostControl : u.service.hostControl = s.service.hostControl

theorem sameButService_unitEnds {s u t : State} (h : Settles (unitEnds u) t) (k : UnitInHand s u) :
    s.SameButService t := by
  have hport := (unitEnds_works u).port
  have hrest := k.rest
  refine ⟨h.control.trans ?_, ⟨h.timer.trans ?_, h.cells.trans ?_, h.store.trans ?_, h.static.trans ?_, h.queue.trans ?_⟩,
    h.loader.trans ?_, h.staging.trans ?_, h.writer.trans ?_, h.health.trans ?_, ?_, ⟨h.timeout.trans ?_, h.busFaults.trans ?_⟩,
    h.now.trans ?_, h.outside.trans ?_, h.pending.trans ?_⟩
  case refine_11 => exact (workShown h.work).hostControl.trans ((unitEnds_hostControl u).trans k.hostControl)
  case refine_12 => rw [hport, hrest]; rfl
  case refine_13 => rw [hport, hrest]; rfl
  all_goals
    simp only [unitEnds_control, unitEnds_timer, unitEnds_cells, unitEnds_store, unitEnds_static, unitEnds_queue,
      unitEnds_loader, unitEnds_staging, unitEnds_writer, unitEnds_health, unitEnds_now, unitEnds_outside, unitEnds_pending]
    rw [hrest]
    rfl

theorem flags_unitEnds {s u t : State} (h : Settles (unitEnds u) t) (k : SameTask s u)
    (hstep : u.service.step = s.service.step) (ha : s.service.activity = .pass) (hc : s.service.step = .c) :
    u.service.SameFlags t.service := by
  rw [unitEnds_of_scan (k.activity.trans ha) (hstep.trans hc)] at h
  obtain ⟨-, -, -, hflags, -⟩ := scanNext_service { u with service := { u.service with boardPos := u.service.boardPos + 1 } }
  exact sameFlags_trans (u := u.service) hflags (workShown h.work).flags

/-! ## The cases of the scan -/

theorem exec_boardEntryReadDone {s : State} {board : Nat} (h : s.Carries (.boardRead board)) (data : Vector Byte 48) :
    exec (.boardEntryReadDone data) s =
      .next (grantAtEnd s.port (pollWriter (handleEntry board data.toList (freePort s)))) :=
  congrArg Host.Outcome.next (exec_of_carries h fun x hk => by rw [hk]; rfl)

theorem handleEntry_of_left {bs : List Byte} (h : (word bs 0).toNat = 0 ∨ (word bs 0).toNat = 2
    ∨ (4 ≤ (word bs 0).toNat ∧ (word bs 0).toNat ≤ 8)) (i : Nat) (s : State) : handleEntry i bs s = unitEnds s := by
  have hcode : (word bs 0).toNat ∈ [0, 2, 4, 5, 6, 7, 8] := by
    simp only [List.mem_cons, List.not_mem_nil]
    omega
  unfold handleEntry stateWordOf
  generalize (word bs 0).toNat = n at hcode
  fin_cases hcode <;> rfl

/-- R76: the values 9 and above name no state. -/
theorem stateWordOf_of_large {w : Word} (h : 9 ≤ w.toNat) : stateWordOf w = none := by
  obtain ⟨n, hn⟩ : ∃ n, w.toNat = n + 9 := ⟨w.toNat - 9, by omega⟩
  rw [stateWordOf, hn]
  rfl

theorem handleEntry_of_junk {bs : List Byte} (h : 9 ≤ (word bs 0).toNat) (i : Nat) (s : State) :
    handleEntry i bs s = unitEnds { s with service := { s.service with junk := true } } := by
  rw [handleEntry, stateWordOf_of_large h]

theorem stateWordOf_posted {w : Word} (h : w.toNat = 1) : stateWordOf w = some .posted := by
  rw [stateWordOf, h]
  rfl

theorem stateWordOf_cancelReq {w : Word} (h : w.toNat = 3) : stateWordOf w = some .cancelReq := by
  rw [stateWordOf, h]
  rfl

theorem handleEntry_of_held {bs : List Byte} (h : (word bs 0).toNat = 1) {i : Nat} {s : State} {e : Entry}
    (he : s.queue.find i = some e) : handleEntry i bs s = postedHeld i e s := by
  rw [handleEntry, stateWordOf_posted h]
  dsimp only
  rw [he]

theorem handleEntry_of_new {bs : List Byte} (h : (word bs 0).toNat = 1) {i : Nat} {s : State}
    (he : s.queue.find i = none) : handleEntry i bs s = takePosted i (word bs 4) (readRequest bs) s := by
  rw [handleEntry, stateWordOf_posted h]
  dsimp only
  rw [he]

theorem handleEntry_of_cancel {bs : List Byte} (h : (word bs 0).toNat = 3) (i : Nat) (s : State) :
    handleEntry i bs s = cancelRead i s := by
  rw [handleEntry, stateWordOf_cancelReq h]

theorem takePosted_of_failure {i : Nat} {tag : Word} {r : Request} {s : State} {reason : OutcomeDetail}
    (h : takeFailure s.store.plan r = some reason) :
    takePosted i tag r s = requestResult i (rejectedAtTake reason) .rejected s := by
  rw [takePosted, h]

theorem takePosted_of_room {r : Request} {s : State} (h : takeFailure s.store.plan r = none)
    (k : s.queue.entries.length < 16) (i : Nat) (tag : Word) : takePosted i tag r s =
      requestState i .taken { s with queue := s.queue.insert i tag r s.timer.nextFrame } := by
  rw [takePosted, h]
  exact if_pos k

theorem takePosted_of_full {r : Request} {s : State} (h : takeFailure s.store.plan r = none)
    (k : 16 ≤ s.queue.entries.length) (i : Nat) (tag : Word) : takePosted i tag r s =
      unitEnds { s with service := { s.service with backlog := true } } := by
  rw [takePosted, h]
  exact if_neg (Nat.not_lt.mpr k)

theorem cancelRead_of_waiting {i : Nat} {s : State} {e : Entry} (h : s.queue.find i = some e) (k : e.status = .waiting) :
    cancelRead i s = requestResult i (e.finish .cancelled .cancelled false).result .cancelled
      { s with queue := s.queue.onBoard i fun e => e.finish .cancelled .cancelled false } := by
  rw [cancelRead, h]
  exact if_pos k

theorem cancelRead_of_started {i : Nat} {s : State} {e : Entry} (h : s.queue.find i = some e) (k : e.status ≠ .waiting) :
    cancelRead i s = unitEnds s := by
  rw [cancelRead, h]
  exact if_neg k

theorem cancelRead_of_none {i : Nat} {s : State} (h : s.queue.find i = none) :
    cancelRead i s = requestState i .cancelLate s := by
  rw [cancelRead, h]

/-! ## The statement -/

/-- R75: the result fields stand 32 bytes into an entry. -/
theorem address_add (x : Addr) (n : Nat) : x + BitVec.ofNat 64 (n + 32) = x + BitVec.ofNat 64 n + 32 := by
  rw [BitVec.ofNat_add, BitVec.add_assoc]
  rfl

theorem code_eq_one {w : Word} (h : w = 1) : w.toNat = 1 := by rw [h]; rfl

/-- A request has been made for the Service Unit, and nothing else has changed. -/
theorem sameButService_request {s t : State} {k : TransferKind} {o n : Nat}
    (h : Settles (requestService k o n (freePort s)) t) : s.SameButService t ∧ s.service.SameWork t.service :=
  ⟨⟨h.control, h.linesAndPlans, h.loader, h.staging, h.writer, h.health, (workShown h.work).hostControl,
    ⟨h.timeout, h.busFaults⟩, h.surroundings⟩, h.work⟩

/-- Settles O50: an entry read by the scan is taken, rejected, cancelled or left, by what its state word held. -/
theorem postedRequestIsTakenOrRejected : Obligations.PostedRequestIsTakenOrRejected := by
  refine ⟨?taken, ?rejected, ?scanned, ?checks, ?length, fun kind opEdge most p1 p2 p3 => operationOf_kinds _ _ _ _ _ _⟩
  case taken =>
    intro data s board hc hw hfind htake hroom
    refine ⟨_, exec_boardEntryReadDone hc data, ?_⟩
    have h := settles_atEnd s.port (handleEntry board data.toList (freePort s))
    generalize grantAtEnd s.port (pollWriter (handleEntry board data.toList (freePort s))) = t at h
    rw [handleEntry_of_new (s := freePort s) (code_eq_one hw) hfind, takePosted_of_room (s := freePort s) htake hroom] at h
    refine ⟨?_, (congrArg Queue.nextTake h.queue :), h.asks .service _ rfl, h.control, h.timer, h.cells, h.store, h.loader,
      h.staging, h.writer, h.health, h.static, (congrArg Queue.runList h.queue :), (congrArg Queue.action h.queue :),
      (congrArg Queue.nextFree h.queue :), h.work, ⟨h.timeout, h.busFaults⟩, h.surroundings⟩
    rw [congrArg Queue.entries h.queue]
    exact insertEntry_perm _ _
  case rejected =>
    intro data s board reason hc hw hfind htake
    refine ⟨_, exec_boardEntryReadDone hc data, ?_⟩
    rw [handleEntry_of_new (s := freePort s) (code_eq_one hw) hfind, takePosted_of_failure (s := freePort s) htake]
    have h := settles_atEnd s.port (requestResult board (rejectedAtTake reason) .rejected (freePort s))
    exact ⟨h.asks .service _ rfl, h.control, h.linesAndPlans, h.loader, h.staging, h.writer, h.health, h.work,
      ⟨h.timeout, h.busFaults⟩, h.surroundings⟩
  case scanned =>
    intro data s board hc ha code address left
    refine ⟨_, exec_boardEntryReadDone hc data, ?_⟩
    have h := settles_atEnd s.port (handleEntry board data.toList (freePort s))
    generalize grantAtEnd s.port (pollWriter (handleEntry board data.toList (freePort s))) = t at h
    have hleft : handleEntry board data.toList (freePort s) = unitEnds (freePort s) → left t := by
      intro e
      rw [e] at h
      have htask : SameTask s (freePort s) := ⟨rfl, rfl, rfl, rfl, rfl, rfl, rfl⟩
      exact ⟨sameButService_unitEnds h ⟨rfl, rfl⟩, scanGoesOn_unitEnds h htask rfl,
        flags_unitEnds (s := s) (u := freePort s) h htask rfl⟩
    refine ⟨fun hcode => hleft (handleEntry_of_left hcode _ _), fun hcode => ?junk, fun hcode hfind htake hfull => ?backlog,
      fun e hcode hfind hs => ?again, fun e hcode hfind hs => hleft ?finished, fun e hcode hfind hs => ?cancelled,
      fun e hcode hfind hs => hleft ?started, fun hcode hfind => ?late⟩
    case junk =>
      rw [handleEntry_of_junk hcode] at h
      have htask : SameTask s { freePort s with service := { s.service with junk := true } } :=
        ⟨rfl, rfl, rfl, rfl, rfl, rfl, rfl⟩
      exact ⟨sameButService_unitEnds h ⟨rfl, rfl⟩, scanGoesOn_unitEnds h htask rfl, flags_unitEnds h htask rfl⟩
    case backlog =>
      rw [handleEntry_of_new (s := freePort s) hcode hfind, takePosted_of_full (s := freePort s) htake hfull] at h
      have htask : SameTask s { freePort s with service := { s.service with backlog := true } } :=
        ⟨rfl, rfl, rfl, rfl, rfl, rfl, rfl⟩
      exact ⟨sameButService_unitEnds h ⟨rfl, rfl⟩, scanGoesOn_unitEnds h htask rfl, flags_unitEnds h htask rfl⟩
    case again =>
      rw [handleEntry_of_held (s := freePort s) hcode hfind, postedHeld, if_neg hs] at h
      exact ⟨h.asks .service _ rfl, sameButService_request h⟩
    case finished => rw [handleEntry_of_held (s := freePort s) hcode hfind, postedHeld, if_pos hs]
    case cancelled =>
      rw [handleEntry_of_cancel hcode, cancelRead_of_waiting (s := freePort s) hfind hs] at h
      have hasks := h.asks .service _ rfl
      have haddress : address + 32 = _ := (address_add s.control.xbase (192 + 48 * board)).symm
      rw [haddress]
      exact ⟨hasks, ⟨h.control, h.linesAndPlans, h.loader, h.staging, h.writer, h.health,
        (workShown h.work).hostControl, ⟨h.timeout, h.busFaults⟩, h.surroundings⟩, h.work⟩
    case started => rw [handleEntry_of_cancel hcode, cancelRead_of_started (s := freePort s) hfind hs]
    case late =>
      rw [handleEntry_of_cancel hcode, cancelRead_of_none (s := freePort s) hfind] at h
      exact ⟨h.asks .service _ rfl, sameButService_request h⟩
  case checks =>
    intro plan r
    classical
    have hreasons := reasons_of_five (takeFailure_eq plan r)
    exact hreasons
  case length =>
    intro r g op hop hg
    rw [minislots_eq hop]
    exact lengthInMinislots_spec _ hg

end Sys2Proof.Proofs.EntryScan
end

section
/-! PROOFS. The writes of the Service Unit and of the Journal Writer (R88, R89, R112, R117, R124, R130 to R132, R163): what
follows when one has completed. -/

namespace Sys2Proof.Proofs.CompletedWrites

open Sys2Proof Sys2Proof.Machine Sys2Proof.Proofs.EngineControl Sys2Proof.Proofs.PortGrants Sys2Proof.Proofs.Moves
open Sys2Proof.Proofs.FrameEnds Sys2Proof.Proofs.Bounds Sys2Proof.Proofs.ServiceWork Sys2Proof.Proofs.SetupReads Sys2Proof.Proofs.LoadStarts
open Sys2Proof.Proofs.ServiceTasks Sys2Proof.Proofs.EntryScan

/-! ## Second writes (R88, R130) -/

theorem exec_resultWriteDone {s : State} {board : Nat} {r : ResultFields} {w : StateWord}
    (h : s.Carries (.resultWrite board r w)) : exec .resultWriteDone s =
      .next (grantAtEnd s.port (pollWriter (requestState board w (freePort s)))) :=
  congrArg Host.Outcome.next (exec_of_carries h fun x hk => by rw [hk]; rfl)

theorem exec_statusFirstWriteDone {s : State} (h : s.Carries .statusFirst) : exec .statusFirstWriteDone s =
    .next (grantAtEnd s.port (pollWriter (requestService .statusSecond 96 64 (freePort s)))) :=
  congrArg Host.Outcome.next (exec_of_carries h fun x hk => by rw [if_pos hk]; rfl)

/-- Settles O51: a result write is followed by its state write, the first status write by the second. -/
theorem secondWritesFollowTheFirst : Obligations.SecondWritesFollowTheFirst := by
  refine ⟨fun s board result final hc => ?result, fun s hc => ?status⟩
  case result =>
    have h := settles_atEnd s.port (requestState board final (freePort s))
    exact ⟨_, exec_resultWriteDone hc, h.asks .service _ rfl, h.control, h.linesAndPlans, h.loader, h.staging, h.writer,
      h.health, h.work, ⟨h.timeout, h.busFaults⟩, h.surroundings⟩
  case status =>
    have h := settles_atEnd s.port (requestService .statusSecond 96 64 (freePort s))
    exact ⟨_, exec_statusFirstWriteDone hc, h.asks .service _ rfl, h.control, h.linesAndPlans, h.loader, h.staging, h.writer,
      h.health, h.work, ⟨h.timeout, h.busFaults⟩, h.surroundings⟩

/-! ## State words (R88, R89, R96) -/

theorem exec_stateWordWriteDone {s : State} {board : Nat} {w : StateWord} (h : s.Carries (.stateWrite board w)) :
    exec .stateWordWriteDone s =
      .next (grantAtEnd s.port (pollWriter (stateWordDone board w (freePort s)))) :=
  congrArg Host.Outcome.next (exec_of_carries h fun x hk => by rw [hk]; rfl)

theorem isFinal_eq (w : StateWord) :
    w.isFinal = decide (w ∈ [StateWord.done, .expired, .cancelled, .rejected, .cancelLate]) := by
  cases w <;> rfl

/-- R88, R96: which entry leaves. -/
theorem removeAnswered_queue {board : Nat} {w : StateWord} {u : State}
    (hu : u.service.unit = .post board ∨ u.service.unit = .scan board) :
    ((u.service.unit = .post board ∨ w = .cancelled) → (removeAnswered board w u).queue = u.queue.remove board)
      ∧ (u.service.unit = .scan board → w ≠ .cancelled → (removeAnswered board w u).queue = u.queue) := by
  unfold removeAnswered
  obtain hu | hu := hu
  · simp [hu]
  · simp +contextual [hu]

/-- The pass flags go on with the unit's end, whatever the step. -/
theorem flags_of_unitEnds {u t : State} (h : Settles (unitEnds u) t) (ha : u.service.activity = .pass) :
    u.service.SameFlags t.service := by
  refine sameFlags_trans ?_ (workShown h.work).flags
  cases hs : u.service.step with
  | b => rw [unitEnds_of_post ha hs]; exact (postFrom_flags _ u).1
  | c =>
    rw [unitEnds_of_scan ha hs]
    obtain ⟨-, -, -, hflags, -⟩ := scanNext_service { u with service := { u.service with boardPos := u.service.boardPos + 1 } }
    exact hflags
  | a => rw [unitEnds, ha, hs]; exact ⟨rfl, rfl, rfl, rfl⟩
  | d => rw [unitEnds, ha, hs]; exact ⟨rfl, rfl, rfl, rfl⟩

theorem raiseIf_setup (c : Control) (b : Bool) (k : Cause) : (c.raiseIf b k).setup = c.setup := by cases b <;> rfl

/-- R88, R89, R96: the answer to an entry has been written: its final state is noted and it leaves the queue. -/
structure Answered (s : State) (board : Nat) (w : StateWord) (u : State) : Prop where
  rest : u = { freePort s with control := u.control, service := u.service, queue := u.queue }
  control : u.control = s.control.raiseIf (w.isFinal && s.service.activity == .tail) .result
  service : u.service = { s.service with noted := s.service.noted || (w.isFinal && s.service.activity == .pass) }
  removed : s.service.unit = .post board ∨ w = .cancelled → u.queue = s.queue.remove board
  kept : s.service.unit = .scan board → w ≠ .cancelled → u.queue = s.queue

theorem stateWordDone_eq {s : State} {board : Nat} (hu : s.service.unit = .post board ∨ s.service.unit = .scan board)
    (w : StateWord) : ∃ u, stateWordDone board w (freePort s) = unitEnds u ∧ Answered s board w u := by
  obtain ⟨hremoved, hkept⟩ := removeAnswered_queue (board := board) (w := w) (u := noteFinal w (freePort s)) hu
  exact ⟨_, rfl, rfl, rfl, rfl, hremoved, hkept⟩

theorem Answered.task {s u : State} {board : Nat} {w : StateWord} (h : Answered s board w u) : SameTask s u where
  activity := by rw [h.service]
  boardPos := by rw [h.service]
  closingOwed := by rw [h.service]
  owed := by rw [h.service]
  xbase := by rw [h.control, raiseIf_xbase]
  boardCount := by rw [h.control, raiseIf_setup]
  current := by rw [h.rest]; rfl

/-- Settles O52: a state word write removes the entry it answers and lets the unit end. -/
theorem stateWriteRemovesThePostedEntry : Obligations.StateWriteRemovesThePostedEntry := by
  intro s board w hc ha hu final
  refine ⟨_, exec_stateWordWriteDone hc, ?_⟩
  have h := settles_atEnd s.port (stateWordDone board w (freePort s))
  generalize grantAtEnd s.port (pollWriter (stateWordDone board w (freePort s))) = t at h
  obtain ⟨u, hdone, hu⟩ := stateWordDone_eq hu w
  rw [hdone] at h
  have hcontrol : t.control = s.control.raiseIf (w.isFinal && s.service.activity == .tail) .result :=
    h.control.trans ((unitEnds_control u).trans hu.control)
  have hqueue : t.queue = u.queue := h.queue.trans (unitEnds_queue u)
  have hstep : u.service.step = s.service.step := by rw [hu.service]
  have hflags : s.service.activity = .pass → u.service.SameFlags t.service := fun hp =>
    flags_of_unitEnds h (hu.task.activity.trans hp)
  have hnoted : s.service.activity = .pass → t.service.noted = (s.service.noted || decide final) := by
    intro hp
    obtain ⟨-, -, -, hn⟩ := hflags hp
    rw [hn, hu.service, isFinal_eq]
    simp [hp, final]
  have hport := (unitEnds_works u).port
  refine ⟨fun hr => hqueue.trans (hu.removed hr), fun hs hw => hqueue.trans (hu.kept hs hw), fun hp _ => hnoted hp, ?result,
    scanGoesOn_unitEnds h hu.task hstep, fun hp hb => ?posting, fun hp => ?flags, ?engine, h.timer.trans ?timer,
    h.cells.trans ?cells, h.store.trans ?store, h.static.trans ?static, h.loader.trans ?loader, h.staging.trans ?staging,
    h.writer.trans ?writer, h.health.trans ?health, ?causes, ?setup, ?readback, ?hostControl, ⟨h.timeout.trans ?timeout,
    h.busFaults.trans ?busFaults⟩, h.now.trans ?now, h.outside.trans ?outside, h.pending.trans ?pending⟩
  case result =>
    rw [hcontrol, raiseIf_has, isFinal_eq]
    simp [final, Bool.and_comm]
  case posting =>
    have hposting := postingGoesOn_unitEnds h hu.task hp (hstep.trans hb)
    rw [hqueue]
    rw [hu.service] at hposting
    exact hposting
  case flags =>
    obtain ⟨hbacklog, hjunk, hrelease, -⟩ := hflags hp
    rw [hu.service] at hbacklog hjunk hrelease
    exact ⟨hbacklog, hjunk, hrelease, rfl⟩
  case engine => rw [hcontrol, raiseIf_engine]
  case causes =>
    rw [hcontrol]
    exact raisesOnly_raiseIf (raisesOnly_rfl _ _) (by decide) _
  case setup => rw [hcontrol, raiseIf_setup]
  case readback => rw [hcontrol, raiseIf_readback]
  case hostControl =>
    rw [(workShown h.work).hostControl, unitEnds_hostControl, hu.service]
  case timeout => rw [hport, hu.rest]; rfl
  case busFaults => rw [hport, hu.rest]; rfl
  all_goals
    simp only [unitEnds_timer, unitEnds_cells, unitEnds_store, unitEnds_static, unitEnds_loader, unitEnds_staging,
      unitEnds_writer, unitEnds_health, unitEnds_now, unitEnds_outside, unitEnds_pending]
    rw [hu.rest]
    rfl

/-! ## The end of step D (R124, R130 to R132, R163) -/

theorem exec_statusSecondWriteDone {s : State} (h : s.Carries .statusSecond) : exec .statusSecondWriteDone s =
    .next (grantAtEnd s.port (pollWriter (statusSecondDone (freePort s)))) :=
  congrArg Host.Outcome.next (exec_of_carries h fun x hk => by rw [if_pos hk])

theorem isOutcome_iff (c : PlanStatusCode) :
    c.isOutcome = true ↔ c ∈ [PlanStatusCode.pending, .current, .rejected, .superseded, .busFailed] := by
  cases c <;> decide

/-- R69, R131. -/
theorem post_eq (l : Loader) : l.post =
    { l with
      posted := true
      status :=
        if l.status.status ∈ [PlanStatusCode.pending, .current, .rejected, .superseded, .busFailed] ∧ l.filling = true then
          { generation := l.generation, status := .filling, detail := .none }
        else l.status } := by
  simp only [Loader.post, isOutcome_iff]

theorem posted_postStatus (s : State) : s.loader.Posted (postStatus s).loader s.service.snapshot.plan := by
  refine ⟨fun h => if_neg h, fun h => ?_⟩
  rw [← post_eq]
  exact if_pos h

theorem serviceFree_registers (u : State) : (serviceFree u).port.timeout = u.port.timeout
    ∧ (serviceFree u).port.busFaults = u.port.busFaults := by
  unfold serviceFree
  dsimp only
  split
  · exact ⟨rfl, rfl⟩
  · split <;> exact ⟨rfl, rfl⟩

/-- R131, R132, R136: step D ends with `v` as the state at which the Service Unit becomes free. -/
structure StepDEnds (u v : State) : Prop where
  ends : statusEnds u = serviceFree v
  rest : v = { u with control := v.control }
  engine : v.control.engine = u.control.engine
  readback : v.control.readback = u.control.readback
  setup : v.control.setup = u.control.setup
  causes : u.control.RaisesOnly v.control [.result, .journal]
  ofPass : u.service.activity = .pass → v = passEvaluations u
  ofOther : u.service.activity ≠ .pass → v = u

theorem stepDEnds {u : State} (h : u.service.activity = .pass ∨ u.service.activity = .tail
    ∨ (u.service.activity = .statusWrite ∧ u.control.engine ≠ .loading)) : ∃ v, StepDEnds u v := by
  have hother : u.service.activity ≠ .pass → statusEnds u = serviceFree u → StepDEnds u u := fun hn e =>
    ⟨e, rfl, rfl, rfl, rfl, raisesOnly_rfl _ _, fun hp => absurd hp hn, fun _ => rfl⟩
  obtain ⟨ha, e⟩ | ⟨ha, e⟩ | ⟨ha, he, -⟩ | ⟨ha, -, e⟩ | ⟨ha, -⟩ := statusEnds_cases u
  · refine ⟨passEvaluations u, e, rfl, ?_, ?_, ?_, ?_, fun _ => rfl, fun hn => absurd ha hn⟩
    · rw [passEvaluations, raiseIf_engine, raiseIf_engine]
    · rw [passEvaluations, raiseIf_readback, raiseIf_readback]
    · rw [passEvaluations, raiseIf_setup, raiseIf_setup]
    · exact raisesOnly_raiseIf (raisesOnly_raiseIf (raisesOnly_rfl _ _) (by decide) _) (by decide) _
  · exact ⟨u, hother (by simp [ha]) e⟩
  · simp [ha, he] at h
  · exact ⟨u, hother (by simp [ha]) e⟩
  · obtain ha | ha := ha <;> simp [ha] at h

theorem StepDEnds.task {s u v : State} (h : StepDEnds u v) (k : SameTask s u) : SameTask s v where
  activity := by rw [h.rest]; exact k.activity
  boardPos := by rw [h.rest]; exact k.boardPos
  closingOwed := by rw [h.rest]; exact k.closingOwed
  owed := by rw [h.rest]; exact k.owed
  xbase := h.causes.2.2.trans k.xbase
  boardCount := (congrArg Setup.boardCount h.setup).trans k.boardCount
  current := by rw [h.rest]; exact k.current

/-- R124, R132: the causes of a pass that ends. -/
theorem passEnds_of {s u t : State} (h : Settles (serviceFree (passEvaluations u)) t) (k : SameTask s (passEvaluations u))
    (hresult : u.control.has .result = s.control.has .result) (hjournal : u.control.has .journal = s.control.has .journal)
    (hnoted : u.service.noted = s.service.noted) (hwriter : u.writer = s.writer) : s.PassEnds t := by
  have hcontrol : t.control = (u.control.raiseIf u.service.noted .result).raiseIf u.writer.watermarkReached .journal :=
    h.control.trans (serviceFree_control _)
  refine ⟨?_, ?_, unitFree_serviceFree h k⟩
  · rw [hcontrol, raiseIf_has, raiseIf_has, hresult, hnoted]
    simp
  · rw [hcontrol, raiseIf_has, raiseIf_has, hjournal, hwriter, watermarkReached_eq]
    simp

/-- Settles O53: the second status write ends the pass, the tail or the closing write. -/
theorem statusWriteEndsThePass : Obligations.StatusWriteEndsThePass := by
  intro s hc ha
  refine ⟨_, exec_statusSecondWriteDone hc, ?_⟩
  have h := settles_atEnd s.port (statusSecondDone (freePort s))
  generalize grantAtEnd s.port (pollWriter (statusSecondDone (freePort s))) = t at h
  obtain ⟨v, hv⟩ := stepDEnds (u := postStatus (freePort s)) ha
  have htask : SameTask s v := hv.task ⟨rfl, rfl, rfl, rfl, rfl, rfl, rfl⟩
  rw [statusSecondDone, hv.ends] at h
  have hcontrol : t.control = v.control := h.control.trans (serviceFree_control v)
  obtain ⟨htimeout, hfaults⟩ := serviceFree_registers v
  have hrest := hv.rest
  refine ⟨?posted, fun hp => ?pass, fun hn => ⟨unitFree_serviceFree h htask, ?other⟩, (congrArg Control.engine hcontrol).trans
    hv.engine, (congrArg Control.readback hcontrol).trans hv.readback, (congrArg Control.setup hcontrol).trans hv.setup,
    hcontrol ▸ hv.causes, ?hostControl, ⟨h.timeout.trans (htimeout.trans ?timeout), h.busFaults.trans (hfaults.trans ?faults)⟩,
    ⟨h.timer.trans ?timer, h.cells.trans ?cells, h.store.trans ?store, h.static.trans ?static, h.queue.trans ?queue⟩,
    h.staging.trans ?staging, h.writer.trans ?writer, h.health.trans ?health, h.now.trans ?now, h.outside.trans ?outside,
    h.pending.trans ?pending⟩
  case posted =>
    rw [h.loader, serviceFree_loader, hrest]
    exact posted_postStatus (freePort s)
  case pass =>
    rw [hv.ofPass hp] at h htask
    exact passEnds_of h htask rfl rfl rfl rfl
  case other => rw [hcontrol, hv.ofOther hn]; rfl
  case hostControl => rw [(workShown h.work).hostControl, serviceFree_hostControl, hrest]; rfl
  case timeout => rw [hrest]; rfl
  case faults => rw [hrest]; rfl
  all_goals
    simp only [serviceFree_timer, serviceFree_cells, serviceFree_store, serviceFree_static, serviceFree_queue,
      serviceFree_staging, serviceFree_writer, serviceFree_health, serviceFree_now, serviceFree_outside, serviceFree_pending]
    rw [hrest]
    rfl

/-! ## LOAD succeeds (R163) -/

theorem loadSucceeds_control {u : State} {v : Setup} (h : u.control.loading = some v) : (loadSucceeds u).control =
    { u.control with
      engine := .armed, pending := .none, stage := .none, setup := v, loading := none
      readback := { last := 1, outcome := .done, reason := .none, planReason := .none }
      cause := u.control.cause ||| 0b010000#6 } := by
  unfold loadSucceeds
  dsimp only
  rw [h]
  rfl

/-- R32, R163: a line's cell when LOAD succeeds. -/
theorem loadSucceeds_cell (u : State) (l : Line) : (loadSucceeds u).cells.get l =
    ((u.cells.get l).takeSettings (planSettings u.store.plan l)).toRest := by
  have hcells : (loadSucceeds u).cells =
      mapCells u.cells fun l c => (c.takeSettings (planSettings u.store.plan l)).toRest := rfl
  rw [hcells, mapCells_get]

theorem toRest_drive {c : Cell} (h : c.settings.direction = .drive) : c.toRest.logical = c.settings.rest := by
  rw [Cell.toRest, if_pos h]

theorem statusEnds_of_load {u : State} (ha : u.service.activity = .statusWrite) (he : u.control.engine = .loading) :
    statusEnds u = loadSucceeds u := by
  rw [statusEnds, ha]
  exact if_pos he

/-- Settles O54: LOAD succeeds with its status write. -/
theorem loadSucceedsWithTheStatusWrite : Obligations.LoadSucceedsWithTheStatusWrite := by
  intro s u hc ha he hu
  refine ⟨_, exec_statusSecondWriteDone hc, ?_⟩
  have h := settles_atEnd s.port (statusSecondDone (freePort s))
  generalize grantAtEnd s.port (pollWriter (statusSecondDone (freePort s))) = t at h
  have hends : statusEnds (postStatus (freePort s)) = loadSucceeds (postStatus (freePort s)) :=
    statusEnds_of_load (u := postStatus (freePort s)) ha he
  rw [statusSecondDone, hends] at h
  refine ⟨h.control.trans (loadSucceeds_control hu), ?posted, h.writer, fun l => ?settings, fun l hd => ?level,
    (workShown h.work).activity, h.timer, h.store, h.staging, h.static, h.queue, (workShown h.work).hostControl, h.health,
    ⟨h.timeout, h.busFaults⟩, h.surroundings⟩
  case posted =>
    rw [h.loader]
    exact posted_postStatus (freePort s)
  case settings =>
    rw [h.cells, loadSucceeds_cell, toRest_settings]
    rfl
  case level =>
    rw [h.cells, loadSucceeds_cell]
    exact toRest_drive (c := (s.cells.get l).takeSettings (planSettings s.store.plan l)) hd

/-! ## Journal writes (R112, R117) -/

theorem exec_journalWriteDone {s : State} (h : s.Carries .journalWrite) : exec .journalWriteDone s =
    .next (grantAtEnd s.port (pollWriter (journalDone (freePort s)))) :=
  congrArg Host.Outcome.next (exec_of_carries h fun x hk => by rw [if_pos hk])

/-- R112, R113: the records that waited are judged. -/
theorem losesSome_offered (st : Staging) : st.losesSome st.offered.length = st.LosesLate st.records.length := by
  rw [losesSome_eq, Staging.LosesLate]
  congr 1
  rw [ne_eq, List.length_eq_zero_iff]

theorem judgeOffers_health (u : State) : (judgeOffers u).health =
    { u.health with faultsNow := { u.health.faultsNow with
        loss := u.health.faultsNow.loss || (u.timer.frameTime.isSome && u.staging.LosesLate u.staging.records.length) } } := by
  rw [judgeOffers, losesSome_offered]
  rfl

theorem losesLate_of_nil {st : Staging} (h : st.offered = []) (n : Nat) : st.LosesLate n = false := by
  simp [Staging.LosesLate, h]

/-- R112: with no record waiting there is nothing to judge. -/
theorem judgeOffers_of_nil {u : State} (h : u.staging.offered = []) :
    (judgeOffers u).staging = u.staging ∧ (judgeOffers u).health = u.health := by
  refine ⟨judge_of_nil h, ?_⟩
  rw [judgeOffers_health, losesLate_of_nil h, Bool.and_false, Bool.or_false]

/-- R117: with no write of the writer at the port, the poll asks exactly when the writer is ready. -/
theorem writerWants_iff_ready {u : State} (h : u.port.writerBusy = false) : writerWants u = true ↔ u.WriterReady := by
  rw [writerWants_iff]
  exact ⟨fun ⟨he, hr, _, hw⟩ => ⟨he, hr, hw⟩, fun ⟨he, hr, hw⟩ => ⟨he, hr, h, hw⟩⟩

/-- Settles O55: a journal write that completed advances W and lets the next record go. -/
theorem journalWriteAdvancesW : Obligations.JournalWriteAdvancesW := by
  intro s hc
  refine ⟨_, exec_journalWriteDone hc, ?_⟩
  have h := settles_atEnd s.port (journalDone (freePort s))
  have hwants : s.port.writer = none → (writerWants (journalDone (freePort s)) = true ↔
      (grantAtEnd s.port (pollWriter (journalDone (freePort s)))).WriterReady) := by
    intro hw
    have hbusy : (journalDone (freePort s)).port.writerBusy = false := by
      show (s.port.writer.isSome || false) = false
      rw [hw]
      rfl
    rw [writerWants_iff_ready hbusy, State.WriterReady, State.WriterReady, h.writer, h.staging]
  refine ⟨h.writer, h.staging, fun ho => ?nothing, h.health.trans (judgeOffers_health _), fun hw hr => ?asks,
    fun hw hr => ?silent, h.control, h.linesAndPlans, h.loader, h.work, h.busFaults, h.timeout, h.surroundings⟩
  case nothing =>
    obtain ⟨hstaging, hhealth⟩ := judgeOffers_of_nil
      (u := { freePort s with writer := s.writer.wrote, staging := s.staging.dropHead }) ho
    exact ⟨h.staging.trans hstaging, h.health.trans hhealth⟩
  case asks =>
    have hport := pollWriter_port_of_wants ((hwants hw).mpr hr)
    exact grantAtEnd_asks (r := .writer) s.port (by rw [hport]; rfl)
  case silent =>
    have hport := pollWriter_port_of_idle (by rw [← Bool.not_eq_true, hwants hw]; exact hr)
    exact grantAtEnd_waiting_none (r := .writer) (by rw [hport]; exact hw)

end Sys2Proof.Proofs.CompletedWrites
end

section
/-! PROOFS. Failed transfers (R65, R118, R143 to R145): each is counted and reported, and its requester goes on as its rules
say. -/

namespace Sys2Proof.Proofs.FailedTransfers

open Sys2Proof Sys2Proof.Machine Sys2Proof.Proofs.EngineControl Sys2Proof.Proofs.PortGrants Sys2Proof.Proofs.Moves
open Sys2Proof.Proofs.Bounds Sys2Proof.Proofs.EveryStepBounds Sys2Proof.Proofs.EveryStepKeeps Sys2Proof.Proofs.ServiceWork Sys2Proof.Proofs.LoadSteps
open Sys2Proof.Proofs.RegisterPort Sys2Proof.Proofs.SetupReads Sys2Proof.Proofs.LoadStarts Sys2Proof.Proofs.ServiceTasks
open Sys2Proof.Proofs.HandOvers Sys2Proof.Proofs.PlanReads Sys2Proof.Proofs.EntryScan Sys2Proof.Proofs.CompletedWrites

/-! ## What no failure touches -/

theorem planReadFails_of_current {s : State} (h : s.loader.readOut = .currentLoad) (d : PlanDetail) :
    planReadFails d s = planBusFailed d { s with loader := { s.loader with readOut := .none } } := by
  rw [planReadFails, h]

theorem planReadFails_of_stale {s : State} (h : s.loader.readOut = .stale) (d : PlanDetail) :
    planReadFails d s = staleReadEnds s := by
  rw [planReadFails, h]

theorem planReadFails_registers (d : PlanDetail) (s : State) : (planReadFails d s).port.timeout = s.port.timeout
    ∧ (planReadFails d s).port.busFaults = s.port.busFaults := by
  cases hr : s.loader.readOut with
  | none => rw [planReadFails, hr]; exact ⟨rfl, rfl⟩
  | stale =>
    rw [planReadFails_of_stale hr]
    exact ⟨(staleReadEnds_ends s).timeout, (staleReadEnds_ends s).busFaults⟩
  | currentLoad => rw [planReadFails_of_current hr, planBusFailed_port]; exact ⟨rfl, rfl⟩

theorem statusEnds_registers (s : State) : (statusEnds s).port.timeout = s.port.timeout
    ∧ (statusEnds s).port.busFaults = s.port.busFaults := by
  obtain ⟨-, e⟩ | ⟨-, e⟩ | ⟨-, -, e⟩ | ⟨-, -, e⟩ | ⟨-, e⟩ := statusEnds_cases s <;> rw [e]
  · exact serviceFree_registers (passEvaluations s)
  · exact serviceFree_registers s
  · exact ⟨rfl, rfl⟩
  · exact serviceFree_registers s
  · exact ⟨rfl, rfl⟩

theorem registers_of_works {u v : State} (h : WorksOn u v) : v.port.timeout = u.port.timeout
    ∧ v.port.busFaults = u.port.busFaults := by
  rw [h.port]
  exact ⟨rfl, rfl⟩

theorem stepA_registers (s : State) : (stepAEnds (handOvers s)).port.timeout = s.port.timeout
    ∧ (stepAEnds (handOvers s)).port.busFaults = s.port.busFaults := by
  obtain ⟨htimeout, hfaults⟩ := registers_of_works (stepAEnds_works (handOvers s))
  obtain ⟨ktimeout, kfaults⟩ := handOverPlan_registers s.service.hostControl.planAddress
    s.service.hostControl.planGeneration (releaseHanded s)
  exact ⟨htimeout.trans ktimeout, hfaults.trans kfaults⟩

theorem failureHanded_registers (d : PlanDetail) (k : TransferKind) (s : State) :
    (failureHanded d k s).port.timeout = s.port.timeout ∧ (failureHanded d k s).port.busFaults = s.port.busFaults := by
  cases k with
  | setupRead => exact ⟨rfl, rfl⟩
  | hostControlRead => exact ⟨rfl, rfl⟩
  | stepARead => exact stepA_registers s
  | planRead => exact planReadFails_registers d s
  | boardRead => exact registers_of_works (unitEnds_works s)
  | resultWrite => exact registers_of_works (unitEnds_works s)
  | stateWrite => exact registers_of_works (unitEnds_works s)
  | statusFirst => exact statusEnds_registers s
  | statusSecond => exact statusEnds_registers s
  | journalWrite => exact ⟨rfl, rfl⟩

theorem failureHanded_health (d : PlanDetail) {k : TransferKind} (h : k ≠ .journalWrite) (s : State) :
    (failureHanded d k s).health = s.health := by
  cases k with
  | journalWrite => exact absurd rfl h
  | setupRead => rfl
  | hostControlRead => rfl
  | stepARead => simp [failureHanded]
  | planRead => simp [failureHanded]
  | boardRead => simp [failureHanded]
  | resultWrite => simp [failureHanded]
  | stateWrite => simp [failureHanded]
  | statusFirst => simp [failureHanded]
  | statusSecond => simp [failureHanded]

/-! ## BUS stays raised -/

theorem planReadFails_control_of_current {s : State} (h : s.loader.readOut = .currentLoad) (d : PlanDetail) :
    (planReadFails d s).control =
      if s.control.engine = .loading then
        { (s.control.raise .plan).readbackIs codeLoad .failed .bus .none with
          engine := .idle, pending := .none, stage := .none, loading := none }
      else s.control.raise .plan := by
  rw [planReadFails_of_current h, planBusFailed]
  by_cases he : s.control.engine = .loading <;> simp [State.initialLoad, he, loadFails]

theorem planReadFails_bus {s : State} (h : s.control.has .bus = true) (d : PlanDetail) :
    (planReadFails d s).control.has .bus = true := by
  cases hr : s.loader.readOut with
  | none => rw [planReadFails, hr]; exact h
  | stale => rw [planReadFails_of_stale hr, staleReadEnds_control]; exact h
  | currentLoad =>
    rw [planReadFails_control_of_current hr]
    split
    · have hloaded := readbackIs_has (s.control.raise .plan) codeLoad .failed .bus .none .bus
      rw [raise_has, h] at hloaded
      exact hloaded
    · rw [raise_has, h]
      rfl

theorem statusEnds_bus {s : State} (h : s.control.has .bus = true) : (statusEnds s).control.has .bus = true := by
  obtain ⟨-, e⟩ | ⟨-, e⟩ | ⟨-, -, e⟩ | ⟨-, -, e⟩ | ⟨-, e⟩ := statusEnds_cases s <;> rw [e]
  · rw [serviceFree_control, passEvaluations, raiseIf_has, raiseIf_has, h]
    rfl
  · rw [serviceFree_control]; exact h
  · exact (readbackIs_has s.control codeLoad .done .none .none .bus).trans (by rw [h]; rfl)
  · rw [serviceFree_control]; exact h
  · exact h

theorem loadFails_bus {s : State} (h : s.control.has .bus = true) (r : CmdReason) (d : PlanDetail) :
    (loadFails r d s).control.has .bus = true :=
  (readbackIs_has s.control codeLoad .failed r d .bus).trans (by rw [h]; rfl)

theorem failureHanded_bus {s : State} (h : s.control.has .bus = true) (d : PlanDetail) (k : TransferKind) :
    (failureHanded d k s).control.has .bus = true := by
  cases k with
  | setupRead => exact loadFails_bus h _ _
  | hostControlRead => exact loadFails_bus h _ _
  | stepARead =>
    rw [failureHanded, stepAEnds_control, handOvers_eq]
    obtain e | e := handOverPlan_control s.service.hostControl.planAddress s.service.hostControl.planGeneration
      (releaseHanded s) <;> rw [e]
    · exact h
    · rw [raise_has]; exact Bool.or_eq_true_iff.mpr (.inl h)
  | planRead => exact planReadFails_bus h d
  | boardRead => rw [failureHanded, unitEnds_control]; exact h
  | resultWrite => rw [failureHanded, unitEnds_control]; exact h
  | stateWrite => rw [failureHanded, unitEnds_control]; exact h
  | statusFirst => exact statusEnds_bus h
  | statusSecond => exact statusEnds_bus h
  | journalWrite => exact h

/-! ## The requesters -/

/-- R145: the failure is counted, before its requester meets it. -/
abbrev failed (s : State) : State := countFailure (freePort s)

theorem failed_task (s : State) : SameTask s (failed s) := ⟨rfl, rfl, rfl, rfl, rfl, rfl, rfl⟩

/-- R88, R129, R133: a unit whose transfer failed ends. -/
structure UnitFails (s t : State) : Prop where
  scan : s.ScanGoesOn t
  control : t.control = s.control.raise .bus
  posting : s.service.activity = .pass → s.service.step = .b → s.PostingGoesOn t s.queue s.service.postList.tail
  writer : t.writer = s.writer
  hostControl : t.service.hostControl = s.service.hostControl
  flags : s.service.activity = .pass → s.service.SameFlags t.service

theorem unitFails {s t : State} (h : Settles (unitEnds (failed s)) t) : UnitFails s t where
  scan := scanGoesOn_unitEnds h (failed_task s) rfl
  control := h.control.trans (unitEnds_control _)
  posting ha hb := postingGoesOn_unitEnds (u := failed s) h (failed_task s) ha hb
  writer := h.writer.trans (unitEnds_writer _)
  hostControl := (workShown h.work).hostControl.trans (unitEnds_hostControl _)
  flags ha := flags_of_unitEnds (u := failed s) h ha

/-- R130 to R132, R163: step D ends although a write of it failed. -/
structure StepDFails (s t : State) : Prop where
  pass : s.service.activity = .pass → s.PassEnds t
  other : s.service.activity = .tail ∨ (s.service.activity = .statusWrite ∧ s.control.engine ≠ .loading) →
    s.UnitFree t ∧ t.control = s.control.raise .bus
  load : ∀ v, s.service.activity = .statusWrite → s.control.engine = .loading → s.control.loading = some v →
    t.control =
        { s.control with
          engine := .armed, pending := .none, stage := .none, setup := v, loading := none
          readback := { last := 1, outcome := .done, reason := .none, planReason := .none }
          cause := s.control.cause ||| 0b110000#6 }
      ∧ t.writer = { s.writer with enabled := true } ∧ t.service.activity = .none
  loader : t.loader = s.loader
  writer : s.control.engine ≠ .loading → t.writer = s.writer
  hostControl : t.service.hostControl = s.service.hostControl
  flags : s.service.activity = .pass → t.service.activity = .pass → t.service.step ≠ .a →
    s.service.SameFlags t.service

theorem statusEnds_hostControl (u : State) : (statusEnds u).service.hostControl = u.service.hostControl := by
  obtain ⟨-, e⟩ | ⟨-, e⟩ | ⟨-, -, e⟩ | ⟨-, -, e⟩ | ⟨-, e⟩ := statusEnds_cases u <;> rw [e]
  · exact serviceFree_hostControl (passEvaluations u)
  · exact serviceFree_hostControl u
  · rfl
  · exact serviceFree_hostControl u

/-- R126, R133, R136: what follows the end of a pass is no pass but one that begins. -/
theorem unitFree_no_pass {s t : State} (h : s.UnitFree t) : t.service.activity ≠ .pass ∨ t.service.step = .a := by
  cases hc : s.service.closingOwed with
  | true => exact .inl (by rw [(h.closing hc).1]; exact nofun)
  | false =>
    cases ho : s.service.owed with
    | true => exact .inr (h.owed hc ho).2.1
    | false => exact .inl (by rw [h.free hc ho]; exact nofun)

theorem cause_bus_command (c : BitVec 6) : c ||| 0b100000#6 ||| 0b010000#6 = c ||| 0b110000#6 := by
  rw [BitVec.or_assoc]
  rfl

theorem stepDFails {s t : State} (h : Settles (statusEnds (failed s)) t) : StepDFails s t where
  pass ha := by
    obtain ⟨v, hv⟩ := stepDEnds (u := failed s) (.inl ha)
    have htask := hv.task (failed_task s)
    rw [hv.ends] at h
    rw [hv.ofPass ha] at h htask
    exact passEnds_of h htask ((raise_has s.control .result .bus).trans (by simp))
      ((raise_has s.control .journal .bus).trans (by simp)) rfl rfl
  other ha := by
    have hn : s.service.activity ≠ .pass := by
      obtain ha | ⟨ha, -⟩ := ha <;> rw [ha] <;> exact nofun
    obtain ⟨v, hv⟩ := stepDEnds (u := failed s) (.inr ha)
    rw [hv.ends, hv.ofOther hn] at h
    exact ⟨unitFree_serviceFree h (failed_task s), h.control.trans (serviceFree_control _)⟩
  load v ha he hv := by
    rw [statusEnds_of_load (u := failed s) ha he] at h
    refine ⟨?_, h.writer, (workShown h.work).activity⟩
    rw [← cause_bus_command]
    exact h.control.trans (loadSucceeds_control (u := failed s) hv)
  loader := h.loader.trans (statusEnds_loader _)
  writer he := h.writer.trans (statusEnds_writer (s := failed s) (.inl he))
  hostControl := (workShown h.work).hostControl.trans (statusEnds_hostControl _)
  flags ha ht hs := by
    obtain ⟨v, hv⟩ := stepDEnds (u := failed s) (.inl ha)
    have htask := hv.task (failed_task s)
    rw [hv.ends] at h
    exact (unitFree_no_pass (unitFree_serviceFree h htask)).elim (absurd ht) (absurd · hs)

/-- R65: a read of the load in progress fails. -/
structure PlanReadFails (s t : State) (d : PlanDetail) : Prop where
  loader : t.loader =
    { s.loader with
      filling := false, generation := 0, readOut := .none, posted := false
      status := { generation := s.loader.generation, status := .busFailed, detail := d } }
  store : t.store = s.store.dropFilling
  control : t.control =
    if s.control.engine = .loading then
      { ((s.control.raise .bus).raise .plan).readbackIs codeLoad .failed .bus .none with
        engine := .idle, pending := .none, stage := .none, loading := none }
    else (s.control.raise .bus).raise .plan

theorem planReadFailed {s t : State} {d : PlanDetail} (hr : s.loader.readOut = .currentLoad)
    (h : Settles (planReadFails d (failed s)) t) : PlanReadFails s t d := by
  have hcontrol := h.control.trans (planReadFails_control_of_current (s := failed s) hr d)
  rw [planReadFails_of_current (s := failed s) hr] at h
  have hfields : ∀ u : State, (planBusFailed d u).loader = u.loader.endLoad.outcome u.loader.generation .busFailed d
      ∧ (planBusFailed d u).store = u.store.dropFilling := by
    intro u
    unfold planBusFailed
    dsimp only
    split <;> exact ⟨rfl, rfl⟩
  obtain ⟨hloader, hstore⟩ := hfields { failed s with loader := { s.loader with readOut := .none } }
  exact ⟨h.loader.trans hloader, h.store.trans hstore, hcontrol⟩

/-- R177: a failed plan read raises BUS and PLAN. -/
theorem raise_bus_plan (c : Control) : (c.raise .bus).raise .plan = { c with cause := c.cause ||| 0b100100#6 } := by
  unfold Control.raise
  congr 1
  rw [BitVec.or_assoc]
  rfl

/-- R113, R145: what a failure reports: BUS_FAULT, and CAPTURE_LOSS when the end of a journal write loses a record. -/
theorem failure_health (d : PlanDetail) (k : TransferKind) (s : State) : ∃ loss,
    (failureHanded d k (failed s)).health =
        { s.health with faultsNow := { s.health.faultsNow with
            bus := s.health.faultsNow.bus || s.timer.frameTime.isSome, loss := loss } }
      ∧ (k ≠ .journalWrite → loss = s.health.faultsNow.loss)
      ∧ (k = .journalWrite → loss = (s.health.faultsNow.loss
          || (s.timer.frameTime.isSome && s.staging.LosesLate s.staging.records.tail.length))) := by
  by_cases hk : k = .journalWrite
  · subst hk
    exact ⟨_, judgeOffers_health { failed s with staging := s.staging.dropHead.lose }, fun hn => absurd rfl hn, fun _ => rfl⟩
  · exact ⟨_, failureHanded_health d hk _, fun _ => rfl, fun h => absurd h hk⟩

/-- R145: what every failure shows, whoever its requester is. -/
structure FailureShown (k : TransferKind) (s t : State) : Prop where
  busFaults : t.port.busFaults = s.port.busFaults + 1
  bus : t.control.has .bus = true
  busReport : t.health.faultsNow.bus = (s.health.faultsNow.bus || s.timer.frameTime.isSome)
  lossKept : k ≠ .journalWrite ∨ s.staging.offered = [] → t.health.faultsNow.loss = s.health.faultsNow.loss
  lossJournal : k = .journalWrite → t.health.faultsNow.loss = (s.health.faultsNow.loss
    || (s.timer.frameTime.isSome && s.staging.LosesLate s.staging.records.tail.length))
  score : t.health.score = s.health.score
  overruns : t.health.overruns = s.health.overruns
  syncFaults : t.health.syncFaults = s.health.syncFaults
  faults : t.health.faults = s.health.faults
  staging : k ≠ .journalWrite → t.staging = s.staging
  timer : t.timer = s.timer
  static : t.static = s.static
  queue : t.queue = s.queue
  timeout : t.port.timeout = s.port.timeout
  surroundings : s.SameSurroundings t

theorem failed_bus (s : State) : (failed s).control.has .bus = true :=
  (raise_has s.control .bus .bus).trans (by simp)

theorem failureShown {d : PlanDetail} {k : TransferKind} {s t : State}
    (h : Settles (failureHanded d k (failed s)) t) : FailureShown k s t := by
  have hframe := failureHanded_frame d k (failed s)
  obtain ⟨htimeout, hfaults⟩ := failureHanded_registers d k (failed s)
  obtain ⟨loss, hhealth, hother, hjournal⟩ := failure_health d k s
  have hreports := h.health.trans hhealth
  have hcontrol := failureHanded_bus (failed_bus s) d k
  have hlost : t.health.faultsNow.loss = loss := by rw [hreports]
  refine ⟨h.busFaults.trans hfaults, h.control ▸ hcontrol, by rw [hreports], fun hk => hlost.trans ?_,
    fun hk => hlost.trans (hjournal hk), by rw [hreports], by rw [hreports], by rw [hreports], by rw [hreports],
    fun hk => h.staging.trans (failureHanded_staging d hk _), h.timer.trans hframe.timer, h.static.trans hframe.static,
    h.queue.trans (failureHanded_queue _ _ _), h.timeout.trans htimeout, h.now.trans hframe.now,
    h.outside.trans hframe.outside, h.pending.trans hframe.pending⟩
  by_cases hj : k = .journalWrite
  · have hn := hk.resolve_left (not_not.mpr hj)
    rw [hjournal hj, losesLate_of_nil hn, Bool.and_false, Bool.or_false]
  · exact hother hj

/-- R65, R71: what the words of the statement say of a plan read that failed. -/
theorem PlanReadFails.shown {s t : State} {d : PlanDetail} (h : PlanReadFails s t d) : t.control.has .plan = true
    ∧ (s.control.engine ≠ .loading → t.control = { s.control with cause := s.control.cause ||| 0b100100#6 })
    ∧ (s.control.engine = .loading → t.control.engine = .idle ∧ t.control.pending = .none
      ∧ t.control.readback = { last := 1, outcome := .failed, reason := .bus, planReason := .none }) := by
  rw [h.control]
  refine ⟨?_, fun he => by rw [if_neg he, raise_bus_plan], fun he => by rw [if_pos he]; exact ⟨rfl, rfl, rfl⟩⟩
  split
  · exact (readbackIs_has ((s.control.raise .bus).raise .plan) codeLoad .failed .bus .none .plan).trans (by simp)
  · simp

/-- R63, R65: a STALE read that failed lets the next read go. -/
theorem staleReadFailed {s t : State} {d : PlanDetail} (hr : s.loader.readOut = .stale)
    (h : Settles (planReadFails d (failed s)) t) :
    t.loader = { s.loader with readOut := if s.loader.filling then .currentLoad else .none }
      ∧ t.store = s.store ∧ t.control = s.control.raise .bus
      ∧ (s.loader.filling = true → s.control.engine ≠ .loading →
        t.Asks .loader .planRead (s.loader.address + BitVec.ofNat 64 s.loader.position) s.loader.readLength) := by
  rw [planReadFails_of_stale (s := failed s) hr] at h
  have hends := staleReadEnds_ends (failed s)
  refine ⟨h.loader.trans hends.loader, h.store.trans (staleReadEnds_store _), h.control.trans (staleReadEnds_control _),
    fun hf he => ?_⟩
  have hasks := hends.asks hf
  rw [planRequester_of_run (s := failed s) he] at hasks
  exact h.asks .loader _ hasks

/-- Settles O56: a failed transfer is counted and reported, and its requester goes on. -/
theorem failedTransferIsCountedAndReported : Obligations.FailedTransferIsCountedAndReported := by
  intro s x c ho hd hc kind counted freed lost
  refine ⟨_, exec_failure ho hd hc, ?_⟩
  have h := settles_atEnd s.port (failureHanded kind x.kind (failed s))
  generalize grantAtEnd s.port (pollWriter (failureHanded kind x.kind (failed s))) = t at h
  have hshown := failureShown h
  have hboard : ∀ board, x.kind = .boardRead board → UnitFails s t := fun board hk => by
    rw [hk] at h
    exact unitFails h
  have hresult : ∀ board result word, x.kind = .resultWrite board result word → UnitFails s t :=
    fun board result word hk => by
      rw [hk] at h
      exact unitFails h
  have hstate : ∀ board word, x.kind = .stateWrite board word → UnitFails s t := fun board word hk => by
    rw [hk] at h
    exact unitFails h
  have hstatus : x.kind = .statusFirst ∨ x.kind = .statusSecond → StepDFails s t := fun hk => by
    obtain hk | hk := hk <;> rw [hk] at h <;> exact stepDFails h
  refine ⟨hshown.busFaults, hshown.bus, hshown.busReport, hshown.lossKept, hshown.lossJournal, hshown.score,
    fun hk => ?journal, fun hk => ?load, fun hk hr => ?planRead, fun hk hr => ?stale, fun hk => ?stepA,
    fun v hk ha he hv => ?loadStatus, fun board hk => ⟨(hboard board hk).scan, (hboard board hk).control⟩,
    fun board word hk => ?second, fun hk => ?kept, fun hk => ⟨(hstatus hk).pass, (hstatus hk).other⟩,
    fun hk => (hstatus hk).loader, hshown.staging, hshown.timer, hshown.static, hshown.queue, hshown.overruns,
    hshown.syncFaults, hshown.faults, hshown.timeout, hshown.surroundings⟩
  case journal =>
    rw [hk] at h
    exact ⟨h.writer, h.staging, fun hn => h.staging.trans (judge_of_nil (st := s.staging.dropHead.lose) hn), h.control⟩
  case load =>
    have hload : Settles (loadFails .bus .none (failed s)) t := by
      obtain hk | hk := hk <;> rw [hk] at h <;> exact h
    exact ⟨congrArg Control.engine hload.control, congrArg Control.pending hload.control,
      congrArg Control.readback hload.control⟩
  case planRead =>
    rw [hk] at h
    have hfails := planReadFailed hr h
    exact ⟨hfails.loader, hfails.store, hfails.shown⟩
  case stale =>
    rw [hk] at h
    exact staleReadFailed hr h
  case stepA =>
    rw [hk] at h
    have hA : StepAEnded s (failed s) t := ⟨h, failed_task s⟩
    refine ⟨hA.hostControl, hA.writer, planHandedOver_of_eq hA.planHandedOver rfl rfl rfl, fun hp =>
      ⟨postingGoesOn_step_ne_a (hA.posting hp), ?_, hA.posting hp⟩, hA.tail⟩
    rw [hA.flags hp, not_accepts_eq]
    rfl
  case loadStatus =>
    obtain ⟨hcontrol, hwriter, hactivity⟩ := (hstatus hk).load v ha he hv
    exact ⟨hcontrol, hwriter, (hstatus hk).loader, hactivity⟩
  case second =>
    have hU : UnitFails s t := by
      obtain ⟨result, hk⟩ | hk := hk
      · exact hresult board result word hk
      · exact hstate board word hk
    exact ⟨hU.scan, hU.control, hU.posting⟩
  case kept =>
    have hunit : UnitFails s t → (s.control.engine ≠ .loading → t.writer = s.writer)
        ∧ t.service.hostControl = s.service.hostControl
        ∧ (s.service.activity = .pass → t.service.activity = .pass → t.service.step ≠ .a →
          s.service.SameFlags t.service) := fun hU => ⟨fun _ => hU.writer, hU.hostControl, fun hp _ _ => hU.flags hp⟩
    obtain hk | ⟨board, hk⟩ | ⟨board, result, word, hk⟩ | ⟨board, word, hk⟩ := hk
    · have hD := hstatus (by simpa using hk)
      exact ⟨hD.writer, hD.hostControl, hD.flags⟩
    · exact hunit (hboard board hk)
    · exact hunit (hresult board result word hk)
    · exact hunit (hstate board word hk)

end Sys2Proof.Proofs.FailedTransfers
end

section
/-! PROOFS. The grant (R141 to R143, R146): which request is issued, with what, and what every command makes of the port. -/

namespace Sys2Proof.Proofs.GrantOrder

open Sys2Proof Sys2Proof.Machine Sys2Proof.Proofs.EngineControl Sys2Proof.Proofs.PortGrants Sys2Proof.Proofs.Moves
open Sys2Proof.Proofs.FrameEnds Sys2Proof.Proofs.Bounds Sys2Proof.Proofs.EveryStepKeeps Sys2Proof.Proofs.PortContents
open Sys2Proof.Proofs.SetupReads Sys2Proof.Proofs.CompletedWrites

/-! ## One grant -/

/-- R141, R143: the request of a requester that waits is granted. -/
theorem grantTo_grants {q : Requester} {v : State} {w : Waiting} (h : v.port.waiting q = some w) :
    (grantTo q v).Grants q w := by
  rw [grantTo_of_waiting h]
  refine ⟨?_, _, rfl⟩
  exact (issue_waiting_eq _ _ _ _ _ _).trans (if_pos rfl)

theorem grantTo_waiting_of_ne {q r : Requester} (h : r ≠ q) (v : State) : (grantTo q v).port.waiting r = v.port.waiting r := by
  cases hq : v.port.waiting q with
  | none => rw [grantTo_of_idle hq]
  | some w => rw [grantTo_of_waiting hq]; exact (issue_waiting_eq _ _ _ _ _ _).trans (if_neg h)

/-- R141: what the grant at the end of a transfer leaves: nothing waits and the port is free, or one request is issued and the
others wait on. -/
theorem grantAtEnd_result (before : Port) (v : State) :
    ((∀ q, v.port.waiting q = none) ∧ (grantAtEnd before v).port = v.port)
      ∨ ∃ q w, v.port.waiting q = some w
        ∧ (∀ r, before.waiting r ≠ none → v.port.waiting r ≠ none → requesterRank q ≤ requesterRank r)
        ∧ (grantAtEnd before v).Grants q w ∧ ∀ r, r ≠ q → (grantAtEnd before v).port.waiting r = v.port.waiting r := by
  obtain ⟨hn, e⟩ | ⟨q, w, hw, hr, e⟩ := grantAtEnd_cases before v <;> rw [e]
  · exact .inl ⟨hn, rfl⟩
  · exact .inr ⟨q, w, hw, hr, grantTo_grants (v := { v with choices := v.choices + 1 }) hw, fun r hne =>
      grantTo_waiting_of_ne hne { v with choices := v.choices + 1 }⟩

/-! ## The ends of transfers -/

/-- R142 to R146: every way the outstanding transfer ends: its requester's effect, or none when it is discarded, then the poll
and the grant. -/
theorem exec_endsTransfer {s : State} {c : Instr} {x : Transfer} (h : s.EndsTransfer c x) :
    ∃ f, (x.discard = false → Answers x f)
      ∧ exec c s = .next (grantAtEnd s.port (pollWriter ((if x.discard then id else f) (freePort s)))) := by
  obtain ⟨ho, h⟩ := h
  have answered : ∀ {e : Transfer → Option (State → State)} {f : State → State}, e x = some f →
      respond e s = grantAtEnd s.port (pollWriter ((if x.discard then id else f) (freePort s))) := by
    intro e f he
    cases hd : x.discard with
    | true => exact respond_of_discarded ho hd he
    | false => exact respond_of_live ho hd he
  obtain ⟨data, rfl, hk⟩ | ⟨data, rfl, hk⟩ | ⟨data, rfl, hk⟩ | ⟨data, rfl, hk⟩ | ⟨data, board, rfl, hk⟩
    | ⟨board, result, final, rfl, hk⟩ | ⟨board, word, rfl, hk⟩ | ⟨rfl, hk⟩ | ⟨rfl, hk⟩ | ⟨rfl, hk⟩ | rfl | ⟨rfl, hdue⟩
    | ⟨rfl, hd⟩ := h
  · exact ⟨_, fun _ => .setupRead _ hk, congrArg Host.Outcome.next (answered (if_pos hk))⟩
  · exact ⟨_, fun _ => .hostControl _ hk, congrArg Host.Outcome.next (answered (if_pos hk))⟩
  · exact ⟨_, fun _ => .stepA _ hk, congrArg Host.Outcome.next (answered (if_pos hk))⟩
  · exact ⟨_, fun _ => .planRead _ hk, congrArg Host.Outcome.next (answered (if_pos hk))⟩
  · exact ⟨_, fun _ => .boardRead board _ hk, congrArg Host.Outcome.next (answered (by rw [hk]; rfl))⟩
  · exact ⟨_, fun _ => .resultWrite board result final hk, congrArg Host.Outcome.next (answered (by rw [hk]; rfl))⟩
  · exact ⟨_, fun _ => .stateWrite board word hk, congrArg Host.Outcome.next (answered (by rw [hk]; rfl))⟩
  · exact ⟨_, fun _ => .statusFirst hk, congrArg Host.Outcome.next (answered (if_pos hk))⟩
  · exact ⟨_, fun _ => .statusSecond hk, congrArg Host.Outcome.next (answered (if_pos hk))⟩
  · exact ⟨_, fun _ => .journalWrite hk, congrArg Host.Outcome.next (answered (if_pos hk))⟩
  · exact ⟨_, fun _ => .failure .busError, congrArg Host.Outcome.next (answered rfl)⟩
  · have hdue : timeoutDue s = true := by simpa [timeoutDue, ho] using hdue
    exact ⟨_, fun _ => .failure .timeout,
      congrArg Host.Outcome.next ((FrameScore.whenDue_of_due hdue _ s).trans (answered rfl))⟩
  · exact ⟨id, fun hn => absurd (hd.symm.trans hn) nofun, congrArg Host.Outcome.next (answered (if_pos hd))⟩

/-! ## A discarded transfer ends (R146) -/

/-- R117: the request of the writer for its next record. -/
def nextWrite (s : State) : Waiting :=
  { kind := .journalWrite, length := 32,
    address := s.writer.base + BitVec.ofNat 64 (32 * (s.writer.written.toNat % s.writer.size.toNat)) }

/-- R117: what waits for the writer once the port is free and the writer polled. -/
theorem pollWriter_freed_writer (s : State) :
    (∀ w, s.port.writer = some w → (pollWriter (freePort s)).port.writer = some w)
      ∧ (s.port.writer = none → s.WriterReady → (pollWriter (freePort s)).port.writer = some (nextWrite s))
      ∧ (s.port.writer = none → ¬ s.WriterReady → (pollWriter (freePort s)).port.writer = none) := by
  have hbusy : s.port.writer = none → (freePort s).port.writerBusy = false := by
    intro hw
    show (s.port.writer.isSome || false) = false
    rw [hw]
    rfl
  refine ⟨fun w hw => pollWriter_waiting (r := .writer) hw, fun hw hr => ?_, fun hw hr => ?_⟩
  · rw [pollWriter_port_of_wants ((writerWants_iff_ready (hbusy hw)).mpr hr)]
    rfl
  · rw [pollWriter_port_of_idle (by rw [← Bool.not_eq_true, writerWants_iff_ready (hbusy hw)]; exact hr)]
    exact hw

/-- R141: what the port grants when a discarded transfer has ended. -/
structure DiscardGrants (s t : State) : Prop where
  service : ∀ w, s.port.service = some w → t.Grants .service w
  writer : ∀ w, s.port.service = none → s.port.writer = some w → t.Grants .writer w
  loader : ∀ w, s.port.service = none → s.port.writer = none → s.port.loader = some w → ¬ s.WriterReady → t.Grants .loader w
  either : ∀ w, s.port.service = none → s.port.writer = none → s.port.loader = some w → s.WriterReady →
    (t.Grants .writer (nextWrite s) ∧ t.port.loader = some w) ∨ (t.Grants .loader w ∧ t.port.writer = some (nextWrite s))
  next : s.port.service = none → s.port.writer = none → s.port.loader = none → s.WriterReady →
    t.Grants .writer (nextWrite s)
  nothing : s.port.service = none → s.port.writer = none → s.port.loader = none → ¬ s.WriterReady →
    t.port.outstanding = none ∧ t.port.service = none ∧ t.port.writer = none ∧ t.port.loader = none
  writerWaits : ∀ w, s.port.writer = some w → s.port.service ≠ none → t.port.writer = some w
  loaderWaits : s.port.service ≠ none ∨ s.port.writer ≠ none → t.port.loader = s.port.loader

theorem requesterRank_le_service {q : Requester} (h : requesterRank q ≤ requesterRank .service) : q = .service := by
  cases q <;> revert h <;> decide

theorem requesterRank_le_writer {q : Requester} (h : requesterRank q ≤ requesterRank .writer) :
    q = .service ∨ q = .writer := by
  cases q <;> revert h <;> decide

theorem discardGrants (s : State) : DiscardGrants s (grantAtEnd s.port (pollWriter (freePort s))) := by
  obtain ⟨hkeeps, hasks, hsilent⟩ := pollWriter_freed_writer s
  have hservice : (pollWriter (freePort s)).port.waiting .service = s.port.service := pollWriter_port_service _
  have hloader : (pollWriter (freePort s)).port.waiting .loader = s.port.loader := pollWriter_port_loader _
  have hfree : (pollWriter (freePort s)).port.outstanding = none := pollWriter_port_outstanding _
  generalize pollWriter (freePort s) = v at hkeeps hasks hsilent hservice hloader hfree
  obtain ⟨hnone, hport⟩ | ⟨q, w, hw, hrank, hgrants, hothers⟩ := grantAtEnd_result s.port v
  case inl =>
    have hs : s.port.service = none := hservice.symm.trans (hnone .service)
    have hl : s.port.loader = none := hloader.symm.trans (hnone .loader)
    have hw : s.port.writer = none := by
      by_contra hw
      obtain ⟨w, hw⟩ := Option.ne_none_iff_exists'.mp hw
      exact absurd ((hkeeps w hw).symm.trans (hnone .writer)) nofun
    have hr : ¬ s.WriterReady := fun hr => absurd ((hasks hw hr).symm.trans (hnone .writer)) nofun
    refine ⟨fun w h => ?_, fun w _ h => ?_, fun w _ _ h => ?_, fun w _ _ h => ?_, fun _ _ _ h => absurd h hr,
      fun _ _ _ _ => ?_, fun w h => ?_, fun h => ?_⟩
    · exact absurd (hs.symm.trans h) nofun
    · exact absurd (hw.symm.trans h) nofun
    · exact absurd (hl.symm.trans h) nofun
    · exact absurd (hl.symm.trans h) nofun
    · rw [hport]
      exact ⟨hfree, hnone .service, hnone .writer, hnone .loader⟩
    · exact absurd (hw.symm.trans h) nofun
    · exact absurd h (not_or.mpr ⟨not_not.mpr hs, not_not.mpr hw⟩)
  case inr =>
    have hgranted : ∀ {r w'}, q = r → v.port.waiting r = some w' → (grantAtEnd s.port v).Grants r w' := by
      rintro r w' rfl hw'
      rw [Option.some.inj (hw'.symm.trans hw)]
      exact hgrants
    have hservice_first : s.port.service ≠ none → q = .service := fun h =>
      requesterRank_le_service (hrank .service h (by rw [hservice]; exact h))
    have hnot_service : s.port.service = none → q ≠ .service := by
      rintro h rfl
      exact absurd (hw.symm.trans (hservice.trans h)) nofun
    have hnot_loader : s.port.loader = none → q ≠ .loader := by
      rintro h rfl
      exact absurd (hw.symm.trans (hloader.trans h)) nofun
    have hnot_writer : s.port.writer = none → ¬ s.WriterReady → q ≠ .writer := by
      rintro h hr rfl
      exact absurd (hw.symm.trans (hsilent h hr)) nofun
    have hwriter_first : s.port.writer ≠ none → q = .service ∨ q = .writer := by
      intro h
      obtain ⟨w', hw'⟩ := Option.ne_none_iff_exists'.mp h
      exact requesterRank_le_writer (hrank .writer h fun hn => absurd ((hkeeps w' hw').symm.trans hn) nofun)
    refine ⟨fun w' h => ?service, fun w' h h' => ?writer, fun w' h h' h'' hr => ?loader, fun w' h h' h'' hr => ?either,
      fun h h' h'' hr => ?next, fun h h' h'' hr => ?nothing, fun w' h hs => ?writerWaits, fun h => ?loaderWaits⟩
    case service =>
      exact hgranted (hservice_first (by rw [h]; exact nofun)) (hservice.trans h)
    case writer =>
      exact hgranted ((hwriter_first (by rw [h']; exact nofun)).resolve_left (hnot_service h)) (hkeeps w' h')
    case loader =>
      have hq : q = .loader := by
        cases q with
        | service => exact absurd rfl (hnot_service h)
        | writer => exact absurd rfl (hnot_writer h' hr)
        | loader => rfl
      exact hgranted hq (hloader.trans h'')
    case either =>
      cases q with
      | service => exact absurd rfl (hnot_service h)
      | writer => exact .inl ⟨hgranted rfl (hasks h' hr), (hothers .loader nofun).trans (hloader.trans h'')⟩
      | loader => exact .inr ⟨hgranted rfl (hloader.trans h''), (hothers .writer nofun).trans (hasks h' hr)⟩
    case next =>
      have hq : q = .writer := by
        cases q with
        | service => exact absurd rfl (hnot_service h)
        | writer => rfl
        | loader => exact absurd rfl (hnot_loader h'')
      exact hgranted hq (hasks h' hr)
    case nothing =>
      cases q with
      | service => exact absurd rfl (hnot_service h)
      | writer => exact absurd rfl (hnot_writer h' hr)
      | loader => exact absurd rfl (hnot_loader h'')
    case writerWaits =>
      rw [hservice_first hs] at hothers
      exact (hothers .writer nofun).trans (hkeeps w' h)
    case loaderWaits =>
      have hq : q = .service ∨ q = .writer := h.elim (fun h => .inl (hservice_first h)) hwriter_first
      exact (hothers .loader (by obtain rfl | rfl := hq <;> exact nofun)).trans hloader

/-- Settles O57: a late response and the end of a discarded transfer have no effect but the grant. -/
theorem lateAndDiscardedEndsHaveNoEffect : Obligations.LateAndDiscardedEndsHaveNoEffect := by
  refine ⟨fun s => rfl, ?_⟩
  intro s x c hx hd next
  obtain ⟨f, -, hexec⟩ := exec_endsTransfer hx
  rw [hd] at hexec
  have h := settles_atEnd s.port (freePort s)
  obtain ⟨hservice, hwriter, hloader, heither, hnext, hnothing, hwaits, hwaits'⟩ := discardGrants s
  exact ⟨_, hexec, hservice, hwriter, hloader, heither, hnext, hnothing, hwaits, hwaits', ⟨h.timeout, h.busFaults⟩, h.control,
    h.linesAndPlans, h.loader, h.staging, h.writer, h.health, h.work, h.surroundings⟩

end Sys2Proof.Proofs.GrantOrder
end

section
/-! PROOFS. What every command makes of the port (R141 to R143, R146): a transfer that is outstanding goes on, discarded or not,
or one is issued at this tick; and no request waits while the port is free. -/

namespace Sys2Proof.Proofs.PortSteps

open Sys2Proof Sys2Proof.Machine Sys2Proof.Proofs.EngineControl Sys2Proof.Proofs.PortGrants Sys2Proof.Proofs.Moves
open Sys2Proof.Proofs.FrameEnds Sys2Proof.Proofs.Bounds Sys2Proof.Proofs.EveryStepKeeps Sys2Proof.Proofs.PortContents
open Sys2Proof.Proofs.EngineConsistency Sys2Proof.Proofs.SetupReads Sys2Proof.Proofs.GrantOrder Sys2Proof.Proofs.RunStarts

/-! ## A transfer just issued -/

/-- R141, R176: the bytes of a transfer are those of its kind, from the state that issued it. -/
structure DataFits (t : State) (y : Transfer) : Prop where
  statusFirst : y.kind = .statusFirst → y.data = statusFirstBytes t.service.snapshot
  statusSecond : y.kind = .statusSecond → y.data = statusSecondBytes t.service.snapshot
  result : ∀ board result final, y.kind = .resultWrite board result final → y.data = resultBytes result
  state : ∀ board final, y.kind = .stateWrite board final → y.data = stateWordBytes final
  journal : ∀ r, y.kind = .journalWrite → t.staging.records.head? = some r → y.data = recordBytes r
  read : y.kind ∈ [.setupRead, .hostControlRead, .stepARead, .planRead] ∨ (∃ board, y.kind = .boardRead board) → y.data = []

/-- R141, R143: a transfer issued at this tick, its timer set and its request gone. -/
structure Fresh (t : State) (y : Transfer) : Prop where
  issue : y.issueTick = t.now
  expiry : y.expiryTick = t.now + t.port.timeout
  live : y.discard = false
  alone : t.port.waiting y.requester = none
  data : DataFits t y

theorem dataFits_issued (v : State) (w : Waiting) (y : Transfer) {t : State} (hk : y.kind = w.kind)
    (hd : y.data = transferData v w.kind) (hs : t.service = v.service.issued (snapshotOf v) w.kind)
    (hr : t.staging = v.staging) : DataFits t y where
  statusFirst h := by
    rw [hk] at h
    rw [hd, hs, h]
    rfl
  statusSecond h := by
    rw [hk] at h
    rw [hd, hs, h]
    rfl
  result _ _ _ h := by
    rw [hk] at h
    rw [hd, h]
    rfl
  state _ _ h := by
    rw [hk] at h
    rw [hd, h]
    rfl
  journal r h hr' := by
    rw [hk] at h
    rw [hr] at hr'
    rw [hd, h, transferData, hr']
    rfl
  read h := by
    rw [hk] at h
    rw [hd]
    obtain h | ⟨board, h⟩ := h
    · simp only [List.mem_cons, List.not_mem_nil, or_false] at h
      obtain h | h | h | h := h <;> rw [h] <;> rfl
    · rw [h]
      rfl

/-- R141, R143: a grant issues a fresh transfer. -/
theorem fresh_grantTo {v : State} {q : Requester} {w : Waiting} (h : v.port.waiting q = some w) {y : Transfer}
    (hy : (grantTo q v).port.outstanding = some y) : Fresh (grantTo q v) y := by
  have hwaits : (grantTo q v).port.waiting q = none := (grantTo_grants h).1
  rw [grantTo_of_waiting h] at hy hwaits ⊢
  obtain rfl := Option.some.inj hy
  exact ⟨rfl, rfl, rfl, hwaits, dataFits_issued v w _ rfl rfl rfl rfl⟩

/-! ## What a change makes of the port -/

/-- Nothing is issued: what is outstanding was so before, but for its discard flag. -/
structure Keeps (s v : State) : Prop where
  now : v.now = s.now
  outstanding : ∀ y, v.port.outstanding = some y →
    ∃ x, s.port.outstanding = some x ∧ y = { x with discard := y.discard }

theorem keeps_of_eq {s v : State} (hp : v.port.outstanding = s.port.outstanding) (hn : v.now = s.now) : Keeps s v :=
  ⟨hn, fun y hy => ⟨y, hp.symm.trans hy, rfl⟩⟩

theorem Keeps.trans {s u v : State} (h : Keeps s u) (k : Keeps u v) : Keeps s v := by
  refine ⟨k.now.trans h.now, fun y hy => ?_⟩
  obtain ⟨x, hx, hy⟩ := k.outstanding y hy
  obtain ⟨z, hz, hx⟩ := h.outstanding x hx
  exact ⟨z, hz, by rw [hy, hx]⟩

/-- What a command makes of the port. -/
structure PortStep (s t : State) : Prop where
  now : t.now = s.now
  served : s.PortServed → t.PortServed
  outstanding : ∀ y, t.port.outstanding = some y →
    (∃ x, s.port.outstanding = some x ∧ y = { x with discard := y.discard }) ∨ Fresh t y

/-- Nothing is issued, and no request is made that was not there. -/
theorem portStep_of_keeps {s t : State} (h : Keeps s t) (hfree : t.port.outstanding = none → s.port.outstanding = none)
    (hwaits : ∀ q, s.port.waiting q = none → t.port.waiting q = none) : PortStep s t :=
  ⟨h.now, fun hs ho q => hwaits q (hs (hfree ho) q), fun y hy => .inl (h.outstanding y hy)⟩

theorem portStep_of_eq {s t : State} (hp : t.port = s.port) (hn : t.now = s.now) : PortStep s t :=
  portStep_of_keeps (keeps_of_eq (by rw [hp]) hn) (fun h => by rw [← hp]; exact h) fun q h => by rw [hp]; exact h

/-- R141: the port grants when it is free. -/
theorem portStep_grantFree {s v : State} (h : Keeps s v) : PortStep s (grantFree v) := by
  refine ⟨(grantFree_now v).trans h.now, fun _ ho q => ?_, fun y hy => ?_⟩
  · obtain ⟨hb, e⟩ | ⟨-, hn, e⟩ | ⟨q', w, -, hw, -, e⟩ := grantFree_cases v <;> rw [e] at ho ⊢
    · exact absurd ho hb
    · exact hn q
    · rw [grantTo_of_waiting hw] at ho
      exact absurd ho nofun
  · obtain ⟨-, e⟩ | ⟨-, -, e⟩ | ⟨q, w, -, hw, -, e⟩ := grantFree_cases v <;> rw [e] at hy ⊢
    · exact .inl (h.outstanding y hy)
    · exact .inl (h.outstanding y hy)
    · exact .inr (fresh_grantTo hw hy)

theorem keeps_pollWriter {s v : State} (h : Keeps s v) : Keeps s (pollWriter v) :=
  ⟨h.now, fun y hy => h.outstanding y ((pollWriter_port_outstanding v).symm.trans hy)⟩

theorem portStep_settlePort {s v : State} (h : Keeps s v) : PortStep s (settlePort v) :=
  portStep_grantFree (keeps_pollWriter h)

/-- R141: the port grants at the end of a transfer. -/
theorem portStep_atEnd {s v : State} (hn : v.now = s.now) (ho : v.port.outstanding = none) (b : Port) :
    PortStep s (grantAtEnd b (pollWriter v)) := by
  have hfree : (pollWriter v).port.outstanding = none := (pollWriter_port_outstanding v).trans ho
  refine ⟨(grantAtEnd_now b _).trans hn, fun _ ho q => ?_, fun y hy => ?_⟩
  · obtain ⟨hw, e⟩ | ⟨q', w, hw, -, e⟩ := grantAtEnd_cases b (pollWriter v) <;> rw [e] at ho ⊢
    · exact hw q
    · rw [grantTo_of_waiting (s := { pollWriter v with choices := (pollWriter v).choices + 1 }) hw] at ho
      exact absurd ho nofun
  · obtain ⟨-, e⟩ | ⟨q', w, hw, -, e⟩ := grantAtEnd_cases b (pollWriter v) <;> rw [e] at hy ⊢
    · exact absurd (hfree.symm.trans hy) nofun
    · exact .inr (fresh_grantTo (v := { pollWriter v with choices := (pollWriter v).choices + 1 }) hw hy)

/-! ## Discards (R146, R147) -/

theorem keeps_discardIf {s v : State} {f : Requester → Bool} (hn : v.now = s.now)
    (hp : v.port.outstanding = (s.port.discardIf f).outstanding) : Keeps s v := by
  refine ⟨hn, fun y hy => ?_⟩
  rw [hp, Port.discardIf, Option.map_eq_some_iff] at hy
  obtain ⟨x, hx, rfl⟩ := hy
  refine ⟨x, hx, ?_⟩
  split <;> rfl

/-- R146: everything is withdrawn. -/
theorem portStep_abandon {s t : State} (hn : t.now = s.now) (hp : t.port.outstanding = s.port.abandon.outstanding)
    (hw : ∀ q, t.port.waiting q = none) : PortStep s t :=
  ⟨hn, fun _ _ => hw, fun y hy => .inl ((keeps_discardIf (f := fun _ => true) hn hp).outstanding y hy)⟩

/-! ## Frame ends -/

theorem keeps_frameEnd (missing : Bool) (s : State) : Keeps s (frameEnd missing s) := by
  rw [frameEnd_eq]
  generalize s.endingSettlement missing = r
  have hended : Keeps s (endedFrame missing s) := keeps_of_eq rfl rfl
  unfold afterSettlement
  cases r.engine with
  | halted => exact hended.trans (keeps_discardIf (f := fun q => q != .writer) rfl rfl)
  | _ => exact hended.trans (keeps_of_eq rfl rfl)

theorem keeps_sampleLines (ls : List Line) (s : State) : Keeps s (sampleLines ls s) := by
  refine keeps_of_eq (by rw [sampleLines_port]) ?_
  unfold sampleLines
  induction ls generalizing s with
  | nil => rfl
  | cons l ls ih => exact (ih (sampleLine l s)).trans (sampleLine_now l s)

/-! ## Every move -/

theorem portStep_ends {s : State} {x : Transfer} {f : State → State} (hf : Answers x f) (b : Port) :
    PortStep s (grantAtEnd b (pollWriter (f (freePort s)))) :=
  portStep_atEnd (s := s) (v := f (freePort s)) (answers_frame hf (freePort s)).now (answers_asked hf (freePort s)).outstanding b

/-- R165: START withdraws a request, and makes none. -/
theorem startShared_waiting (e : EngineState) {s : State} {q : Requester} (h : s.port.waiting q = none) :
    (startShared e s).port.waiting q = none := by
  unfold startShared
  split
  · cases q with
    | service => rfl
    | writer => exact h
    | loader => exact h
  · exact h

theorem portStep_startInternal (s : State) : PortStep s (settlePort (startInternal s)) :=
  portStep_settlePort (keeps_of_eq (startShared_outstanding .running s) rfl)

theorem portStep_serviceWindow (s : State) : PortStep s (serviceWindow s) := by
  unfold serviceWindow
  cases s.service.activity with
  | none => exact portStep_grantFree (keeps_of_eq rfl rfl)
  | _ => exact portStep_of_eq rfl rfl

theorem portStep_startExternal (s : State) : PortStep s (startExternal s) := by
  have ho : (startExternal s).port.outstanding = s.port.outstanding := startShared_outstanding .syncWait s
  refine portStep_of_keeps (keeps_of_eq ho rfl) (fun h => ho.symm.trans h) fun q h => ?_
  exact startShared_waiting .syncWait h

theorem move_portStep {s t : State} (h : Move s t) : PortStep s t := by
  cases h with
  | stays => exact portStep_of_eq rfl rfl
  | reset => exact ⟨rfl, fun _ _ q => by cases q <;> rfl, fun y hy => nomatch hy⟩
  | refused => exact portStep_of_eq rfl rfl
  | load => exact portStep_grantFree (keeps_of_eq rfl rfl)
  | startInternal => exact portStep_startInternal s
  | startExternal => exact portStep_startExternal s
  | stopPends => exact portStep_of_eq rfl rfl
  | stopInSyncWait => exact portStep_settlePort (keeps_of_eq rfl rfl)
  | resume => exact portStep_of_eq rfl rfl
  | halt => exact portStep_abandon rfl rfl fun q => by cases q <;> rfl
  | haltAgain => exact portStep_of_eq rfl rfl
  | clear => exact portStep_abandon rfl rfl fun q => by cases q <;> rfl
  | xbase => exact portStep_of_eq rfl rfl
  | cause => exact portStep_of_eq rfl rfl
  | mask => exact portStep_of_eq rfl rfl
  | sample => exact portStep_of_eq rfl rfl
  | firstEdge level => exact portStep_settlePort (keeps_of_eq rfl rfl)
  | earlyEdge => exact portStep_of_eq rfl rfl
  | frameEnd missing u hu =>
    have hu : Keeps s u := by
      obtain rfl | ⟨level, rfl⟩ := hu <;> exact keeps_of_eq rfl rfl
    exact portStep_settlePort (hu.trans (keeps_frameEnd missing u))
  | lineEdge levels =>
    have hu : Keeps s { s with outside := { s.outside with lines := levels } } := keeps_of_eq rfl rfl
    exact portStep_settlePort (hu.trans (keeps_sampleLines allLines _))
  | instant => exact portStep_of_eq rfl rfl
  | lines => exact portStep_of_eq rfl rfl
  | closeWindow => exact portStep_of_eq rfl rfl
  | dynamic => exact portStep_of_eq rfl rfl
  | minislot m =>
    obtain ⟨v, q, e | ⟨p, body, -, e⟩⟩ := minislotStarts_cases m s <;> rw [e]
    · exact portStep_of_eq rfl rfl
    · exact portStep_settlePort (keeps_of_eq rfl rfl)
  | spotEnd => exact portStep_of_eq (finishSpotDue_port s) (finishSpotDue_now s)
  | service => exact portStep_serviceWindow s
  | closing => exact portStep_grantFree (keeps_of_eq rfl rfl)
  | ends x f _ _ hf => exact portStep_ends hf s.port
  | discarded => exact portStep_atEnd (s := s) (v := freePort s) rfl rfl s.port

end Sys2Proof.Proofs.PortSteps
end

section
/-! PROOFS. The port grants by priority (R141, R143). -/

namespace Sys2Proof.Proofs.PriorityGrants

open Sys2Proof Sys2Proof.Machine Sys2Proof.Proofs.PortGrants Sys2Proof.Proofs.Moves Sys2Proof.Proofs.FrameEnds
open Sys2Proof.Proofs.EveryStepKeeps Sys2Proof.Proofs.PortContents Sys2Proof.Proofs.GrantOrder Sys2Proof.Proofs.PortSteps Sys2Proof.Proofs.Bounds

theorem eq_of_requesterRank_eq {q r : Requester} (h : requesterRank q = requesterRank r) : q = r := by
  revert h
  cases q <;> cases r <;> decide

/-- R141: a free port grants the request no higher one waits before. -/
theorem grantFree_of_first {s : State} {q : Requester} {w : Waiting} (ho : s.port.outstanding = none)
    (hw : s.port.waiting q = some w) (hfirst : ∀ r, requesterRank r < requesterRank q → s.port.waiting r = none) :
    grantFree s = grantTo q s := by
  obtain ⟨hb, -⟩ | ⟨-, hn, -⟩ | ⟨q', w', -, hw', hfirst', e⟩ := grantFree_cases s
  · exact absurd ho hb
  · exact absurd (hw.symm.trans (hn q)) nofun
  · obtain hlt | heq | hgt := Nat.lt_trichotomy (requesterRank q) (requesterRank q')
    · exact absurd (hw.symm.trans (hfirst' q hlt)) nofun
    · rw [e, eq_of_requesterRank_eq heq]
    · exact absurd (hw'.symm.trans (hfirst q' hgt)) nofun

/-- What the grant of a request makes of the port. -/
theorem grantFree_port_of_first {s : State} {q : Requester} {w : Waiting} (ho : s.port.outstanding = none)
    (hw : s.port.waiting q = some w) (hfirst : ∀ r, requesterRank r < requesterRank q → s.port.waiting r = none) :
    (grantFree s).port = s.port.issue q w (transferData s w.kind) s.now := by
  rw [grantFree_of_first ho hw hfirst, grantTo_of_waiting hw]

theorem transferData_of_journalWrite {s : State} {r : Record} (h : s.staging.records.head? = some r) :
    transferData s .journalWrite = recordBytes r := by
  rw [transferData, h]
  rfl

/-- R141: a request that waits still waits once the outstanding transfer has ended. -/
theorem waits_after_end {s : State} {x : Transfer} {f : State → State} (hf : x.discard = false → Answers x f) {q : Requester}
    (hq : s.port.waiting q ≠ none) : (pollWriter ((if x.discard then id else f) (freePort s))).port.waiting q ≠ none := by
  have hwaits : (((if x.discard then id else f) (freePort s)).port.waiting q) ≠ none := by
    cases hd : x.discard with
    | true => exact hq
    | false =>
      have h := answers_asked (hf hd) (freePort s)
      cases q with
      | service =>
        obtain e | ⟨w, e, -⟩ := h.service
        · exact fun hn => hq (e.symm.trans hn)
        · exact fun hn => absurd (e.symm.trans hn) nofun
      | writer => exact fun hn => hq (h.writer.symm.trans hn)
      | loader =>
        obtain e | ⟨-, w, e, -⟩ := h.loader
        · exact fun hn => hq (e.symm.trans hn)
        · exact fun hn => absurd (e.symm.trans hn) nofun
  obtain ⟨w, hw⟩ := Option.ne_none_iff_exists'.mp hwaits
  rw [pollWriter_waiting hw]
  exact nofun

theorem ended_now {s : State} {x : Transfer} {f : State → State} (hf : x.discard = false → Answers x f) (b : Port) :
    (grantAtEnd b (pollWriter ((if x.discard then id else f) (freePort s)))).now = s.now := by
  rw [grantAtEnd_now, pollWriter_now]
  cases hd : x.discard with
  | true => rfl
  | false => exact (answers_frame (hf hd) (freePort s)).now

/-- Settles O58: the grant is of the highest request, and no request is lost. -/
theorem portGrantsByPriority : Obligations.PortGrantsByPriority := by
  refine ⟨fun s ho => ⟨fun w hw => ?service, fun w hs hw => ?writer, fun w hs hw hl => ?loader⟩, fun c s t hs h => ?served,
    fun c s t y h hy => ?outstanding, fun c s x hx => ?ends⟩
  case service =>
    rw [grantFree_port_of_first (q := .service) ho hw fun r h => absurd h (Nat.not_lt_zero _)]
    exact ⟨_, rfl, rfl, rfl, rfl, rfl, rfl, rfl, rfl, rfl⟩
  case writer =>
    rw [grantFree_port_of_first (q := .writer) ho hw fun r h => by
      cases r with
      | service => exact hs
      | writer => exact absurd h (Nat.lt_irrefl _)
      | loader => exact absurd h (by decide)]
    refine ⟨_, rfl, rfl, rfl, rfl, rfl, fun r hk hr => ?_, rfl, rfl, rfl⟩
    show transferData s w.kind = recordBytes r
    rw [hk]
    exact transferData_of_journalWrite hr
  case loader =>
    rw [grantFree_port_of_first (q := .loader) ho hl fun r h => by
      cases r with
      | service => exact hs
      | writer => exact hw
      | loader => exact absurd h (Nat.lt_irrefl _)]
    exact ⟨_, rfl, rfl, rfl, rfl, rfl, rfl, rfl⟩
  case served => exact (move_portStep (move_of_exec h)).served hs
  case outstanding =>
    have hstep := move_portStep (move_of_exec h)
    refine (hstep.outstanding y hy).imp_right fun hfresh => ?_
    exact ⟨hfresh.issue.trans hstep.now, hstep.now ▸ hfresh.expiry, hfresh.live, hfresh.alone⟩
  case ends =>
    obtain ⟨f, hf, hexec⟩ := exec_endsTransfer hx
    refine ⟨_, hexec, fun q hq => ?_⟩
    have hwaits : ∀ r, s.port.waiting r ≠ none →
        (pollWriter ((if x.discard then id else f) (freePort s))).port.waiting r ≠ none := fun r hr => waits_after_end hf hr
    have hnow := ended_now (s := s) hf s.port
    obtain ⟨hn, -⟩ | ⟨q', w, -, hrank, hgrants, hothers⟩ :=
      grantAtEnd_result s.port (pollWriter ((if x.discard then id else f) (freePort s)))
    · exact absurd (hn q) (hwaits q hq)
    · obtain ⟨-, data, hy⟩ := hgrants
      refine ⟨_, hy, hnow, rfl, hrank q hq (hwaits q hq), fun hne => ?_⟩
      rw [hothers q hne]
      exact hwaits q hq

end Sys2Proof.Proofs.PriorityGrants
end

section
/-! PROOFS. The bytes shared with the host (R175, R176): fields read back as written, the layouts, the codes. -/

namespace Sys2Proof.Proofs.Layouts

open Sys2Proof Sys2Proof.Machine Sys2Proof.Proofs.PortGrants Sys2Proof.Proofs.Moves Sys2Proof.Proofs.EntryScan
open Sys2Proof.Proofs.PortSteps Sys2Proof.Proofs.PriorityGrants

/-! ## Fields of one byte and more -/

/-- R175: the bytes of a field are in ascending order of significance. -/
theorem toNat_append_eq {m n : Nat} (high : BitVec m) (low : BitVec n) :
    (high ++ low).toNat = low.toNat + 2 ^ n * high.toNat := by
  rw [BitVec.toNat_append, ← Nat.shiftLeft_add_eq_or_of_lt low.isLt, Nat.shiftLeft_eq, Nat.mul_comm, Nat.add_comm]

theorem halfBytes_join (x : Half) : x.extractLsb' 8 8 ++ x.extractLsb' 0 8 = x := by
  apply BitVec.eq_of_toNat_eq
  simp only [toNat_append_eq, BitVec.extractLsb'_toNat, Nat.shiftRight_eq_div_pow]
  omega

theorem wordBytes_join (x : Word) :
    (x.extractLsb' 24 8 ++ x.extractLsb' 16 8) ++ (x.extractLsb' 8 8 ++ x.extractLsb' 0 8) = x := by
  apply BitVec.eq_of_toNat_eq
  simp only [toNat_append_eq, BitVec.extractLsb'_toNat, Nat.shiftRight_eq_div_pow]
  omega

theorem byteAt_of_drop {bs : List Byte} {o : Nat} {b : Byte} {rest : List Byte} (h : bs.drop o = b :: rest) :
    byteAt bs o = b := by
  rw [byteAt, List.getD_eq_getElem?_getD, ← List.head?_drop, h]
  rfl

/-- R176: a two-byte field written at an offset reads back. -/
theorem half_of_drop {bs : List Byte} {o : Nat} {x : Half} {rest : List Byte} (h : bs.drop o = halfBytes x ++ rest) :
    half bs o = x := by
  have hlow : byteAt bs o = x.extractLsb' 0 8 := byteAt_of_drop h
  have hhigh : byteAt bs (o + 1) = x.extractLsb' 8 8 := byteAt_of_drop (by rw [← List.drop_drop, h]; rfl)
  rw [half, hlow, hhigh, halfBytes_join]

/-- R176: a four-byte field written at an offset reads back. -/
theorem word_of_drop {bs : List Byte} {o : Nat} {x : Word} {rest : List Byte} (h : bs.drop o = wordBytes x ++ rest) :
    word bs o = x := by
  have byte : ∀ k b rest', (wordBytes x ++ rest).drop k = b :: rest' → byteAt bs (o + k) = b := fun k b rest' hk =>
    byteAt_of_drop (by rw [← List.drop_drop, h, hk])
  have hlow : half bs o = x.extractLsb' 8 8 ++ x.extractLsb' 0 8 := congrArg₂ BitVec.append (byte 1 _ _ rfl) (byte 0 _ _ rfl)
  have hhigh : half bs (o + 2) = x.extractLsb' 24 8 ++ x.extractLsb' 16 8 :=
    congrArg₂ BitVec.append (byte 3 _ _ rfl) (byte 2 _ _ rfl)
  rw [word, hhigh, hlow, wordBytes_join]

/-- R176: bytes marked "no field" are written as 0. -/
theorem byteAt_noField {bs : List Byte} {n o : Nat} (h : bs.length ≤ o) : byteAt (bs ++ noField n) o = 0 := by
  rw [byteAt, List.getD_append_right _ _ _ _ h, noField, List.getD_eq_getElem?_getD, List.getElem?_replicate]
  split <;> rfl

theorem half_of_zero {bs : List Byte} {o : Nat} (h : byteAt bs o = 0) (h' : byteAt bs (o + 1) = 0) : half bs o = 0 := by
  rw [half, h, h']
  rfl

theorem word_of_zero {bs : List Byte} {o : Nat} (h : half bs o = 0) (h' : half bs (o + 2) = 0) : word bs o = 0 := by
  rw [word, h, h']
  rfl

theorem half_toNat (bs : List Byte) (o : Nat) :
    (half bs o).toNat = (byteAt bs o).toNat + 256 * (byteAt bs (o + 1)).toNat := toNat_append_eq _ _

theorem word_toNat (bs : List Byte) (o : Nat) :
    (word bs o).toNat = (half bs o).toNat + 65536 * (half bs (o + 2)).toNat := toNat_append_eq _ _

theorem quad_toNat (bs : List Byte) (o : Nat) :
    (quad bs o).toNat = (word bs o).toNat + 4294967296 * (word bs (o + 4)).toNat := toNat_append_eq _ _

theorem byteOf_toNat {n : Nat} (h : n ≤ 255) : (byteOf n).toNat = n := by
  rw [byteOf, BitVec.toNat_ofNat]
  omega

/-! ## The status section (R130) -/

theorem passFlags_bits (p : Snapshot) :
    (passFlagsByte p).getLsbD 0 = p.backlog ∧ (passFlagsByte p).getLsbD 1 = p.junk
      ∧ (passFlagsByte p).getLsbD 2 = p.releaseBad ∧ (passFlagsByte p).extractLsb' 3 5 = 0 := by
  unfold passFlagsByte
  generalize p.backlog = a
  generalize p.junk = b
  generalize p.releaseBad = c
  revert a b c
  decide

theorem statusFirstBytes_layout (p : Snapshot) :
    (statusFirstBytes p).length = 32 ∧ word (statusFirstBytes p) 0 = p.overruns ∧ word (statusFirstBytes p) 4 = p.syncFaults
      ∧ word (statusFirstBytes p) 8 = p.busFaults ∧ word (statusFirstBytes p) 12 = p.recordsLost
      ∧ ∀ o, o < 32 → 16 ≤ o → byteAt (statusFirstBytes p) o = 0 :=
  ⟨rfl, word_of_drop rfl, word_of_drop rfl, word_of_drop rfl, word_of_drop rfl, fun _ _ h => byteAt_noField h⟩

structure StatusSecondLayout (p : Snapshot) (b : List Byte) : Prop where
  length : b.length = 64
  serial : word b 0 = p.serial
  frame : word b 4 = p.frame
  engine : byteAt b 8 = byteOf p.engine.code
  score : byteAt b 9 = byteOf p.score
  flags : byteAt b 10 = passFlagsByte p
  spare : byteAt b 11 = 0
  written : word b 12 = p.written
  released : word b 16 = p.released
  generation : word b 20 = p.currentGeneration
  planGeneration : word b 24 = p.plan.generation
  planStatus : byteAt b 28 = byteOf p.plan.status.code
  planDetail : byteAt b 29 = byteOf p.plan.detail.code
  noField : ∀ o, 30 ≤ o → byteAt b o = 0

theorem statusSecondBytes_layout (p : Snapshot) : StatusSecondLayout p (statusSecondBytes p) :=
  ⟨rfl, word_of_drop rfl, word_of_drop rfl, rfl, rfl, rfl, rfl, word_of_drop rfl, word_of_drop rfl, word_of_drop rfl,
    word_of_drop rfl, rfl, rfl, fun _ h => byteAt_noField h⟩

/-! ## Results and state words (R75, R76) -/

theorem resultBytes_layout (r : ResultFields) :
    (resultBytes r).length = 16 ∧ byteAt (resultBytes r) 0 = byteOf r.detail.code
      ∧ byteAt (resultBytes r) 1 = flagByte r.afterSwitch ∧ half (resultBytes r) 2 = 0
      ∧ word (resultBytes r) 4 = r.startFrame ∧ word (resultBytes r) 8 = BitVec.ofNat 32 r.startTime
      ∧ byteAt (resultBytes r) 12 = byteOf r.captures ∧ byteAt (resultBytes r) 13 = 0 ∧ byteAt (resultBytes r) 14 = 0
      ∧ byteAt (resultBytes r) 15 = 0 :=
  ⟨rfl, rfl, rfl, half_of_zero rfl rfl, word_of_drop rfl, word_of_drop rfl, rfl, rfl, rfl, rfl⟩

theorem stateWord_roundTrip (w : StateWord) :
    stateWordOf (BitVec.ofNat 32 w.code) = some w ∧ (w.isFinal = true ↔ 4 ≤ w.code) := by
  cases w <;> decide

/-! ## Journal records (R110) -/

/-- The bytes of a record that do not depend on its body. -/
structure RecordHead (r : Record) (b : List Byte) : Prop where
  length : b.length = 32
  spare : byteAt b 1 = 0
  lostBefore : half b 2 = r.lostBefore
  frame : word b 4 = r.frame
  time : word b 8 = BitVec.ofNat 32 r.time
  spare' : byteAt b 15 = 0
  noField : ∀ o, 24 ≤ o → byteAt b o = 0

/-- R110: a record is its head, the bytes of its body, and at least eight bytes of no field. -/
theorem recordBytes_split (r : Record) : ∃ k body n, recordBytes r = recordHead k r ++ body ++ noField n
    ∧ body.length + n = 20 ∧ 8 ≤ n ∧ byteAt (body ++ noField n) 3 = 0 := by
  unfold recordBytes
  cases r.body with
  | capture line edge source =>
    cases source with
    | static slot action =>
      exact ⟨1, [byteOf line.val, byteOf edge.code, 0, 0, byteOf slot, byteOf action], 14, rfl, rfl, by decide, rfl⟩
    | spot board tag =>
      exact ⟨1, [byteOf line.val, byteOf edge.code, 1, 0, byteOf board, 0] ++ noField 2 ++ wordBytes tag, 8, rfl, rfl,
        by decide, rfl⟩
  | mark tag board =>
    exact ⟨2, noField 4 ++ [byteOf board] ++ noField 3 ++ wordBytes tag, 8, rfl, rfl, by decide, rfl⟩
  | planSwitch new old => exact ⟨3, noField 4 ++ wordBytes new ++ wordBytes old, 8, rfl, rfl, by decide, rfl⟩
  | state new cause => exact ⟨4, [byteOf new.code, byteOf cause.code], 18, rfl, rfl, by decide, rfl⟩

/-- R110: every record's head, its spare byte and the bytes of no field. -/
theorem recordBytes_head (r : Record) : RecordHead r (recordBytes r) := by
  obtain ⟨k, body, n, e, hlen, hn, hspare⟩ := recordBytes_split r
  have hhead : (recordHead k r ++ body).length = 12 + body.length := List.length_append
  rw [e]
  refine ⟨?_, rfl, half_of_drop rfl, word_of_drop rfl, word_of_drop rfl, ?_, fun o ho => byteAt_noField (by omega)⟩
  · rw [List.length_append, hhead, noField, List.length_replicate]
    omega
  · rw [List.append_assoc]
    exact hspare

/-! ## Plans and requests (R37 to R40) -/

theorem flagOf_of_le {b : Byte} (h : b.toNat ≤ 1) : flagOf b = some (decide (b.toNat = 1)) := by
  obtain h | h : b.toNat = 0 ∨ b.toNat = 1 := by omega
  all_goals
    rw [flagOf, h]
    rfl

theorem flagOf_of_gt {b : Byte} (h : 1 < b.toNat) : flagOf b = none := by
  obtain ⟨n, hn⟩ : ∃ n, b.toNat = n + 2 := ⟨b.toNat - 2, by omega⟩
  rw [flagOf, hn]
  rfl

end Sys2Proof.Proofs.Layouts
end

section
/-! PROOFS. The layouts of what is written and read, and what each write transfer holds (R130, R175, R176). -/

namespace Sys2Proof.Proofs.WriteLayouts

open Sys2Proof Sys2Proof.Machine Sys2Proof.Proofs.PortGrants Sys2Proof.Proofs.Moves Sys2Proof.Proofs.EntryScan
open Sys2Proof.Proofs.PortSteps Sys2Proof.Proofs.PriorityGrants Sys2Proof.Proofs.Layouts

/-! ## Record bodies (R110) -/

theorem recordBytes_static {r : Record} {line : Line} {edge : Edge} {slot action : Nat}
    (h : r.body = .capture line edge (.static slot action)) : recordBytes r =
      recordHead 1 r ++ [byteOf line.val, byteOf edge.code, 0, 0, byteOf slot, byteOf action] ++ noField 14 := by
  rw [recordBytes, h]

theorem recordBytes_spot {r : Record} {line : Line} {edge : Edge} {board : Nat} {tag : Word}
    (h : r.body = .capture line edge (.spot board tag)) : recordBytes r =
      recordHead 1 r ++ [byteOf line.val, byteOf edge.code, 1, 0, byteOf board, 0] ++ noField 2 ++ wordBytes tag
        ++ noField 8 := by
  rw [recordBytes, h]

theorem recordBytes_mark {r : Record} {tag : Word} {board : Nat} (h : r.body = .mark tag board) : recordBytes r =
    recordHead 2 r ++ noField 4 ++ [byteOf board] ++ noField 3 ++ wordBytes tag ++ noField 8 := by
  rw [recordBytes, h]

theorem recordBytes_planSwitch {r : Record} {new old : Word} (h : r.body = .planSwitch new old) : recordBytes r =
    recordHead 3 r ++ noField 4 ++ wordBytes new ++ wordBytes old ++ noField 8 := by
  rw [recordBytes, h]

theorem recordBytes_state {r : Record} {new : EngineState} {cause : StateCause} (h : r.body = .state new cause) :
    recordBytes r = recordHead 4 r ++ [byteOf new.code, byteOf cause.code] ++ noField 18 := by
  rw [recordBytes, h]

theorem capture_layout {r : Record} {line : Line} {edge : Edge} {source : WindowSource}
    (h : r.body = .capture line edge source) :
    byteAt (recordBytes r) 0 = 1 ∧ byteAt (recordBytes r) 12 = byteOf line.val
      ∧ byteAt (recordBytes r) 13 = byteOf edge.code ∧ half (recordBytes r) 18 = 0
      ∧ (∀ slot action, source = .static slot action →
          byteAt (recordBytes r) 14 = 0 ∧ byteAt (recordBytes r) 16 = byteOf slot ∧ byteAt (recordBytes r) 17 = byteOf action
            ∧ word (recordBytes r) 20 = 0)
      ∧ (∀ board tag, source = .spot board tag →
          byteAt (recordBytes r) 14 = 1 ∧ byteAt (recordBytes r) 16 = byteOf board ∧ byteAt (recordBytes r) 17 = 0
            ∧ word (recordBytes r) 20 = tag) := by
  cases source with
  | static slot action =>
    rw [recordBytes_static h]
    refine ⟨rfl, rfl, rfl, half_of_zero rfl rfl, fun slot' action' e => ?_, fun board tag e => nomatch e⟩
    obtain ⟨rfl, rfl⟩ : slot = slot' ∧ action = action' := by simpa using e
    exact ⟨rfl, rfl, rfl, word_of_zero (half_of_zero rfl rfl) (half_of_zero rfl rfl)⟩
  | spot board tag =>
    rw [recordBytes_spot h]
    refine ⟨rfl, rfl, rfl, half_of_zero rfl rfl, fun slot action e => absurd e nofun, fun board' tag' e => ?_⟩
    obtain ⟨rfl, rfl⟩ : board = board' ∧ tag = tag' := by simpa using e
    exact ⟨rfl, rfl, rfl, word_of_drop rfl⟩

theorem mark_layout {r : Record} {tag : Word} {board : Nat} (h : r.body = .mark tag board) :
    byteAt (recordBytes r) 0 = 2 ∧ byteAt (recordBytes r) 12 = 0 ∧ byteAt (recordBytes r) 13 = 0
      ∧ byteAt (recordBytes r) 14 = 0 ∧ byteAt (recordBytes r) 16 = byteOf board ∧ byteAt (recordBytes r) 17 = 0
      ∧ half (recordBytes r) 18 = 0 ∧ word (recordBytes r) 20 = tag := by
  rw [recordBytes_mark h]
  exact ⟨rfl, rfl, rfl, rfl, rfl, rfl, half_of_zero rfl rfl, word_of_drop rfl⟩

theorem planSwitch_layout {r : Record} {new old : Word} (h : r.body = .planSwitch new old) :
    byteAt (recordBytes r) 0 = 3 ∧ byteAt (recordBytes r) 12 = 0 ∧ byteAt (recordBytes r) 13 = 0
      ∧ byteAt (recordBytes r) 14 = 0 ∧ word (recordBytes r) 16 = new ∧ word (recordBytes r) 20 = old := by
  rw [recordBytes_planSwitch h]
  exact ⟨rfl, rfl, rfl, rfl, word_of_drop rfl, word_of_drop rfl⟩

theorem state_layout {r : Record} {new : EngineState} {cause : StateCause} (h : r.body = .state new cause) :
    byteAt (recordBytes r) 0 = 4 ∧ byteAt (recordBytes r) 12 = byteOf new.code
      ∧ byteAt (recordBytes r) 13 = byteOf cause.code ∧ byteAt (recordBytes r) 14 = 0 ∧ word (recordBytes r) 16 = 0
      ∧ word (recordBytes r) 20 = 0 := by
  rw [recordBytes_state h]
  exact ⟨rfl, rfl, rfl, rfl, word_of_zero (half_of_zero rfl rfl) (half_of_zero rfl rfl),
    word_of_zero (half_of_zero rfl rfl) (half_of_zero rfl rfl)⟩

/-! ## The line table (R39) -/

/-- R39: a line's settings where every setting holds a defined value. -/
theorem planLine_of_flags {bs : List Byte} {l : Line} (h : ∀ o, o < 4 → (byteAt bs (32 + 8 * l.val + o)).toNat ≤ 1) :
    planLine bs l = some
      { direction := if (byteAt bs (32 + 8 * l.val + 0)).toNat = 1 then .drive else .sense
        rest := decide ((byteAt bs (32 + 8 * l.val + 1)).toNat = 1)
        safe := decide ((byteAt bs (32 + 8 * l.val + 2)).toNat = 1)
        invert := decide ((byteAt bs (32 + 8 * l.val + 3)).toNat = 1) } := by
  have h0 := flagOf_of_le (h 0 (by decide))
  have h1 := flagOf_of_le (h 1 (by decide))
  have h2 := flagOf_of_le (h 2 (by decide))
  have h3 := flagOf_of_le (h 3 (by decide))
  simp only [Nat.add_zero] at h0
  simp only [planLine, h0, h1, h2, h3, decide_eq_true_iff, Nat.add_zero]

/-- R39: a setting with another value leaves the line without settings. -/
theorem planLine_of_bad {bs : List Byte} {l : Line} {o : Nat} (ho : o < 4)
    (h : 1 < (byteAt bs (32 + 8 * l.val + o)).toNat) : planLine bs l = none := by
  have hnone := flagOf_of_gt h
  simp only [planLine]
  split
  next h0 h1 h2 h3 =>
    obtain rfl | rfl | rfl | rfl : o = 0 ∨ o = 1 ∨ o = 2 ∨ o = 3 := by omega
    · exact absurd (hnone.symm.trans h0) nofun
    · exact absurd (hnone.symm.trans h1) nofun
    · exact absurd (hnone.symm.trans h2) nofun
    · exact absurd (hnone.symm.trans h3) nofun
  next => rfl

theorem planSettings_of_some {bs : List Byte} {l : Line} {settings : LineSettings} (h : planLine bs l = some settings) :
    planSettings bs l = settings := by
  rw [planSettings, h]
  rfl

/-! ## The snapshot (R130) -/

/-- R130: what issuing the first status write makes of the Service Unit and of the port. -/
theorem grantFree_of_statusFirst {s : State} {w : Waiting} (ho : s.port.outstanding = none) (hw : s.port.service = some w)
    (hk : w.kind = .statusFirst) :
    (grantFree s).service.snapshot = snapshotOf s ∧ (grantFree s).service.serial = s.service.serial + 1
      ∧ ∃ x, (grantFree s).port.outstanding = some x ∧ x.data = statusFirstBytes (snapshotOf s) ∧ x.address = w.address
        ∧ x.length = w.length := by
  have hwaits : s.port.waiting .service = some w := hw
  rw [grantFree_of_first ho hwaits fun _ h => absurd h (Nat.not_lt_zero _), grantTo_of_waiting hwaits, hk]
  exact ⟨rfl, rfl, _, rfl, rfl, rfl, rfl⟩

/-- R130: in a pass the frame and the flags are the pass's. -/
theorem snapshotOf_pass {s : State} (h : s.service.activity = .pass) :
    (snapshotOf s).frame = s.service.passFrame ∧ (snapshotOf s).backlog = s.service.backlog
      ∧ (snapshotOf s).junk = s.service.junk ∧ (snapshotOf s).releaseBad = s.service.releaseBad := by
  simp [snapshotOf, h]

/-- R137: in a status write outside a pass the frame is the current one, and the flags are clear. -/
theorem snapshotOf_statusWrite {s : State} (h : s.service.activity = .statusWrite) :
    (snapshotOf s).frame = s.timer.current ∧ (snapshotOf s).backlog = false ∧ (snapshotOf s).junk = false
      ∧ (snapshotOf s).releaseBad = false := by
  simp [snapshotOf, h]

/-! ## The statement -/

/-- Settles O60: every write follows its layout, and every read takes its fields from their offsets. -/
theorem writesFollowTheLayouts : Obligations.WritesFollowTheLayouts := by
  refine ⟨fun p => ?status, resultBytes_layout, fun r => ?record, fun s w ho hw hk => ?snapshot, fun c s t y h hy => ?issued,
    fun w => ?stateWord, fun w h => stateWordOf_of_large h,
    fun bs o => ⟨rfl, half_toNat bs o, word_toNat bs o, quad_toNat bs o⟩, fun n h => byteOf_toNat h, rfl, rfl,
    fun bs => ?reads, rfl, rfl, rfl, rfl, rfl, rfl, rfl, rfl, rfl, rfl⟩
  case status =>
    obtain ⟨hlen, hoverruns, hsync, hbus, hlost, hnone⟩ := statusFirstBytes_layout p
    have h := statusSecondBytes_layout p
    obtain ⟨hbacklog, hjunk, hrelease, hrest⟩ := passFlags_bits p
    rw [← h.flags] at hbacklog hjunk hrelease hrest
    exact ⟨hlen, hoverruns, hsync, hbus, hlost, hnone, h.length, h.serial, h.frame, h.engine, h.score, hbacklog, hjunk,
      hrelease, hrest, h.spare, h.written, h.released, h.generation, h.planGeneration, h.planStatus, h.planDetail,
      fun o _ => h.noField o⟩
  case record =>
    have h := recordBytes_head r
    exact ⟨h.length, h.spare, h.lostBefore, h.frame, h.time, h.spare', fun o _ => h.noField o,
      fun _ _ _ => capture_layout, fun _ _ => mark_layout, fun _ _ => planSwitch_layout, fun _ _ => state_layout⟩
  case snapshot =>
    obtain ⟨hsnapshot, hserial, hdata⟩ := grantFree_of_statusFirst ho hw hk
    rw [hsnapshot]
    exact ⟨hserial, rfl, rfl, rfl, rfl, rfl, rfl, rfl, rfl, rfl, rfl, rfl, snapshotOf_pass, snapshotOf_statusWrite, hdata⟩
  case issued =>
    refine ((move_portStep (move_of_exec h)).outstanding y hy).imp_right fun hfresh => ?_
    have hfits := hfresh.data
    exact ⟨hfits.statusFirst, hfits.statusSecond, hfits.result, hfits.state, hfits.journal, hfits.read⟩
  case stateWord =>
    obtain ⟨hread, hfinal⟩ := stateWord_roundTrip w
    exact ⟨rfl, word_of_drop rfl, hread, hfinal⟩
  case reads =>
    exact ⟨rfl, fun l => ⟨planLine_of_flags, fun ⟨o, ho, h⟩ => planLine_of_bad ho h, fun _ => planSettings_of_some⟩,
      fun k => rfl, rfl, fun a => rfl, rfl, fun r => rfl⟩

end Sys2Proof.Proofs.WriteLayouts
end

section
/-! PROOFS. Records offered to staging join or are lost (R112 to R115, R118). -/

namespace Sys2Proof.Proofs.OfferedRecords

open Sys2Proof Sys2Proof.Machine Sys2Proof.Proofs.FrameEnds Sys2Proof.Proofs.LineSamples

/-! ## One record -/

/-- R112: with a place free a record joins. -/
theorem offer_of_room {st : Staging} (h : st.records.length < 32) (d : Bool) (b : RecordBody) (p : Word × Nat) :
    st.offer d b p = st.join b p := by
  obtain ⟨-, e⟩ | ⟨hfull, -⟩ | ⟨hfull, -⟩ := offer_cases st d b p
  · exact e
  · exact absurd h (Nat.not_lt.mpr hfull)
  · exact absurd h (Nat.not_lt.mpr hfull)

/-- R113: with every place taken a record is lost, while the head stays. -/
theorem offer_of_full {st : Staging} (h : 32 ≤ st.records.length) (b : RecordBody) (p : Word × Nat) :
    st.offer false b p = st.loseOffer b := by
  obtain ⟨hroom, -⟩ | ⟨-, hd, -⟩ | ⟨-, -, e⟩ := offer_cases st false b p
  · exact absurd hroom (Nat.not_lt.mpr h)
  · exact absurd hd nofun
  · exact e

/-- R112: while the head's write is at the port a record waits for its place. -/
theorem offer_of_departing {st : Staging} (h : 32 ≤ st.records.length) (b : RecordBody) (p : Word × Nat) :
    st.offer true b p = { st with offered := st.offered ++ [{ body := b, frame := p.1, time := p.2 }] } := by
  obtain ⟨hroom, -⟩ | ⟨-, -, e⟩ | ⟨-, hd, -⟩ := offer_cases st true b p
  · exact absurd hroom (Nat.not_lt.mpr h)
  · exact e
  · exact absurd hd nofun

theorem saturatingSucc_eq (x : Word) : saturatingSucc x = if x = 4294967295#32 then 4294967295#32 else x + 1 := by
  by_cases h : x = 4294967295#32
  · rw [h]
    rfl
  · exact (if_neg h).trans (if_neg h).symm

theorem undoneByHalt_iff (b : RecordBody) :
    b.undoneByHalt = true ↔ (∃ line edge source, b = .capture line edge source) ∨ ∃ tag board, b = .mark tag board := by
  cases b with
  | capture line edge source => exact iff_of_true rfl (.inl ⟨line, edge, source, rfl⟩)
  | mark tag board => exact iff_of_true rfl (.inr ⟨tag, board, rfl⟩)
  | planSwitch new old => exact iff_of_false nofun (by rintro (⟨_, _, _, e⟩ | ⟨_, _, e⟩) <;> cases e)
  | state new cause => exact iff_of_false nofun (by rintro (⟨_, _, _, e⟩ | ⟨_, _, e⟩) <;> cases e)

/-! ## The records that waited -/

/-- A judged record does not meet those that wait behind it. -/
theorem offer_false_withOffered (st : Staging) (waiting : List Offer) (b : RecordBody) (p : Word × Nat) :
    ({ st with offered := waiting } : Staging).offer false b p = { st.offer false b p with offered := waiting } := by
  obtain ⟨h, e⟩ | ⟨-, hd, -⟩ | ⟨h, -, e⟩ := offer_cases st false b p
  · rw [e]
    exact offer_of_room (st := { st with offered := waiting }) h false b p
  · exact absurd hd nofun
  · rw [e]
    exact offer_of_full (st := { st with offered := waiting }) h b p

/-- R112: the records that waited are judged one by one. -/
theorem judge_of_cons {st : Staging} {o : Offer} {rest : List Offer} (h : st.offered = o :: rest) :
    st.judge = (({ st with offered := rest } : Staging).offer false o.body (o.frame, o.time)).judge := by
  rw [offer_false_withOffered, Staging.judge, h, List.foldl_cons, offer_false_withOffered]
  rfl

/-! ## The records of one tick -/

/-- R113, R118: the records beyond the places are counted as lost. -/
theorem offerAll_lost {st : Staging} (h : st.records.length ≤ 32) (bodies : List RecordBody) (p : Word × Nat) :
    (st.offerAll false bodies p).lost = st.lost + BitVec.ofNat 32 (st.records.length + bodies.length - 32) := by
  induction bodies generalizing st with
  | nil =>
    have hnone : st.records.length + 0 - 32 = 0 := by omega
    rw [offerAll_nil, List.length_nil, hnone]
    exact (BitVec.add_zero _).symm
  | cons b bodies ih =>
    rw [offerAll_cons, ih (offer_length_le h false b p), List.length_cons]
    obtain hroom | hfull := Nat.lt_or_ge st.records.length 32
    · rw [offer_of_room hroom]
      have hlen : (st.join b p).records.length = st.records.length + 1 := List.length_append
      have hcount : (st.join b p).records.length + bodies.length = st.records.length + (bodies.length + 1) := by omega
      rw [hcount]
      rfl
    · rw [offer_of_full hfull, loseOffer_records, loseOffer_lost]
      have hcount : st.records.length + (bodies.length + 1) - 32 = 1 + (st.records.length + bodies.length - 32) := by omega
      rw [hcount, BitVec.ofNat_add, BitVec.add_assoc]
      rfl

/-- Settles O59: an offered record joins staging, waits for the head's place, or is lost and counted. -/
theorem offeredRecordJoinsOrIsLost : Obligations.OfferedRecordJoinsOrIsLost := by
  refine ⟨fun st departing body frame time => ⟨fun h => ?joins, fun h => ?lost, fun h => ?waits, undoneByHalt_iff body⟩,
    fun st => ⟨judge_of_nil, fun o rest => judge_of_cons⟩, fun st bodies stamp h => ⟨?count, offerAll_lost h bodies stamp⟩,
    fun bodies stamp s => ?offer⟩
  case joins =>
    rw [offer_of_room h, ← lostBeforeOf_eq]
    rfl
  case lost =>
    rw [offer_of_full h, ← saturatingSucc_eq]
    rfl
  case waits => exact offer_of_departing h body (frame, time)
  case count =>
    rw [offerAll_false_length]
    omega
  case offer =>
    rw [offer, reportLoss_eq, losesSome_eq, Bool.and_assoc]
    rfl

end Sys2Proof.Proofs.OfferedRecords
end
